-- ==== Sys2Proof/Word.lean ====
section
/-! DEFINITION. The word types of the register window and of the wire (00_scope.md R9, R10). -/

namespace Sys2Proof

/-- One byte of the wire or of the scratchpad buffer. -/
abbrev Byte := BitVec 8

/-- `TB_WIDTH` bits: the time-base counter and a WAIT's count (R9, R22, R100). -/
abbrev Half := BitVec 16

/-- `REG_WIDTH` bits: a host register and a command word (R9, R25, R80). -/
abbrev Word := BitVec 32

end Sys2Proof
end

