-- ==== Sys2Proof/Config.lean ====
section
/-! DEFINITION. What an implementation fixes: the parameters of 00_scope.md R9. They are configuration, not state (R49). -/

namespace Sys2Proof

/-- `BASE`: the host address of offset 0x00. The spec leaves it OPEN (R9, R60, D3, I6), so it has no value here (log 6). -/
opaque Config.base : Nat

/-- The parameters of R9, each with the value R9 gives it as its default. I6 to I9 ask for named arguments: the shared
operations take a `Params`; the machine itself is at `Config.params` (log 16). -/
structure Params where
  /-- `BASE`, OPEN. -/
  base : Nat
  /-- `WAIT_EXTRA`: extra ticks per wait; 0, alternative 1 (D10, C1). -/
  waitExtra : Nat := 0
  /-- `FRAC_DIVISOR`: 1000, alternative 10 (D18, C4). -/
  fracDivisor : Nat := 1000
  /-- `CONVERT_LOOPS`. -/
  convertLoops : Nat := 100
  /-- `CONVERT_CHUNK`. -/
  convertChunk : Half := 7500
  /-- `T_RSTL`: reset low. -/
  tRstl : Half := 480
  /-- `T_PDS`: release to the first presence sample. -/
  tPds : Half := 70
  /-- `T_PDR`: first to second presence sample. -/
  tPdr : Half := 410
  /-- `T_W1L`: write-1 low. -/
  tW1l : Half := 10
  /-- `T_W1H`: write-1 high. -/
  tW1h : Half := 65
  /-- `T_W0L`: write-0 low. -/
  tW0l : Half := 65
  /-- `T_W0H`: write-0 high. -/
  tW0h : Half := 10
  /-- `T_RL`: read-slot low. -/
  tRl : Half := 5
  /-- `T_RS`: release to read sample. -/
  tRs : Half := 5
  /-- `T_RREC`: after the read sample (C3). -/
  tRrec : Half := 55
  deriving DecidableEq, Repr

/-- The parameters of this hardware: R9's values, `BASE` left open. -/
def Config.params : Params := { base := Config.base }

/-- `SP_BYTES`: the scratchpad's length (R9, R33). -/
abbrev Config.spBytes : Nat := 9

/-- `CMD_SKIP_ROM` (R9, R87). -/
def Config.cmdSkipRom : Byte := 0xCC

/-- `CMD_CONVERT_T` (R9, R87). -/
def Config.cmdConvertT : Byte := 0x44

/-- `CMD_READ_SCRATCHPAD` (R9, R87). -/
def Config.cmdReadScratchpad : Byte := 0xBE

/-- The register window's length in bytes (R60). -/
def Config.windowBytes : Nat := 0x40

end Sys2Proof
end

