-- ==== Sys2Proof/Syntax.lean ====
section
/-! DEFINITION. The instructions: the twelve rows of spec/opcode_table.json. -/

namespace Sys2Proof

/-- One constructor per row of the table: nine command words (30_encoding.md R81) and the three 1-Wire command bytes that
READ_TEMPERATURE sends (R87). An operand's type has exactly the operand's width (R82), so no term has an operand out of range. -/
inductive Instr
  /-- `INIT` (R113). -/
  | init
  /-- `RESET_PULSE` (R110). -/
  | resetPulse
  /-- `WRITE_BIT b`, `b = w[8]` (R114). -/
  | writeBit (b : Bool)
  /-- `READ_BIT` (R116). -/
  | readBit
  /-- `WRITE_BYTE value`, `value = w[15:8]` (R140). -/
  | writeByte (value : Byte)
  /-- `READ_BYTE` (R141). -/
  | readByte
  /-- `DELAY n`, `n = w[31:16]` (R101). -/
  | delay (n : Half)
  /-- `READ_TEMPERATURE` (R150). -/
  | readTemperature
  /-- `DECODE` (R181). -/
  | decode
  /-- The wire byte Skip ROM, 0xCC (R152, R155). -/
  | skipRomByte
  /-- The wire byte Convert T, 0x44 (R152). -/
  | convertTByte
  /-- The wire byte Read Scratchpad, 0xBE (R155). -/
  | readScratchpadByte
  deriving DecidableEq, Repr

/-- An encoded instruction: a command word written to CMD (R80), or a byte the sequencer sends on the wire (R87). -/
inductive Code
  | cmd (w : Word)
  | wire (b : Byte)
  deriving DecidableEq, Repr

/-- The row's mnemonic in spec/opcode_table.json. -/
def Instr.mnemonic : Instr → String
  | .init => "INIT"
  | .resetPulse => "RESET_PULSE"
  | .writeBit _ => "WRITE_BIT"
  | .readBit => "READ_BIT"
  | .writeByte _ => "WRITE_BYTE"
  | .readByte => "READ_BYTE"
  | .delay _ => "DELAY"
  | .readTemperature => "READ_TEMPERATURE"
  | .decode => "DECODE"
  | .skipRomByte => "SKIP_ROM_BYTE"
  | .convertTByte => "CONVERT_T_BYTE"
  | .readScratchpadByte => "READ_SCRATCHPAD_BYTE"

/-- A host access of the register window: `size` bytes at offset `off` (20_memory.md R62, R63). -/
structure Access where
  off : Nat
  size : Nat
  deriving DecidableEq, Repr

end Sys2Proof
end

