-- ==== Sys2Proof/WellFormed.lean ====
section
/-! DEFINITION. What is well formed: instructions, host accesses, parameters. -/

namespace Sys2Proof

/-- Every instruction is well formed: the operand types have exactly the widths of R82 (one bit, 8 bits, 16 bits), and every
value of them is legal (R83's free bits). -/
def Instr.wellFormed : Instr → Bool
  | .init => true
  | .resetPulse => true
  | .writeBit _ => true
  | .readBit => true
  | .writeByte _ => true
  | .readByte => true
  | .delay _ => true
  | .readTemperature => true
  | .decode => true
  | .skipRomByte => true
  | .convertTByte => true
  | .readScratchpadByte => true

/-- The access is 32 bits wide (R64). -/
def Access.wordSized (a : Access) : Bool := a.size == 4

/-- The offset is a multiple of 4 (R64). -/
def Access.aligned (a : Access) : Bool := a.off % 4 == 0

/-- The offset lies in the 64-byte window (R60, R64). -/
def Access.inWindow (a : Access) : Bool := a.off < Config.windowBytes

/-- The accesses the spec defines; a model refuses every other one (R64, D2, I4). -/
def Access.wellFormed (a : Access) : Bool := a.wordSized && a.aligned && a.inWindow

/-- FRAC_DIVISOR is a nonzero constant (44_decoder.md R185). -/
def Params.wellFormed (p : Params) : Bool := p.fracDivisor != 0

end Sys2Proof
end

