-- ==== Sys2Proof/Decode.lean ====
section
/-! DEFINITION. The decoder and the encoder (30_encoding.md R80 to R85, R87). -/

namespace Sys2Proof

/-- `OP`, bits 3:0 (R80). -/
def opOf (w : Word) : BitVec 4 := w.extractLsb' 0 4

/-- `RSV`, bits 7:4 (R80). -/
def rsvOf (w : Word) : BitVec 4 := w.extractLsb' 4 4

/-- `ARG8`, bits 15:8 (R80). -/
def arg8Of (w : Word) : Byte := w.extractLsb' 8 8

/-- `ARG16`, bits 31:16 (R80). -/
def arg16Of (w : Word) : Half := w.extractLsb' 16 16

/-- Why a word or byte is no instruction: the four causes of R84, and a byte that is none of R87's three. -/
inductive DecodeError
  /-- R84(a): OP is 0x0 or 0xA to 0xF. -/
  | illegalOp
  /-- R84(b): RSV is not 0. -/
  | reservedBits
  /-- R84(c): a bit of ARG8 is set that the OP has no operand for. -/
  | arg8Bits
  /-- R84(d): ARG16 is not 0 and the OP is not DELAY. -/
  | arg16Bits
  /-- A wire byte the sequencer has no command for (R87). -/
  | notWireCommand
  deriving DecidableEq, Repr

/-- The fields an OP does not use must be 0 (R80, R84): `free8` and `free16` are the operand bits it does use. Where several
are not, the first in R84's order is named (log 15). -/
def checkFields (w : Word) (free8 : Byte) (free16 : Half) (i : Instr) : Except DecodeError Instr :=
  if rsvOf w ≠ 0 then .error .reservedBits
  else if arg8Of w &&& ~~~free8 ≠ 0 then .error .arg8Bits
  else if arg16Of w &&& ~~~free16 ≠ 0 then .error .arg16Bits
  else .ok i

/-- A command word (R81 to R84). -/
def decode (w : Word) : Except DecodeError Instr :=
  match (opOf w).toNat with
  | 1 => checkFields w 0 0 .init
  | 2 => checkFields w 0 0 .resetPulse
  | 3 => checkFields w 0x01 0 (.writeBit ((arg8Of w).getLsbD 0))
  | 4 => checkFields w 0 0 .readBit
  | 5 => checkFields w 0xFF 0 (.writeByte (arg8Of w))
  | 6 => checkFields w 0 0 .readByte
  | 7 => checkFields w 0 0xFFFF (.delay (arg16Of w))
  | 8 => checkFields w 0 0 .readTemperature
  | 9 => checkFields w 0 0 .decode
  | _ => .error .illegalOp

/-- A byte the sequencer is about to send (R87). -/
def decodeWire (b : Byte) : Except DecodeError Instr :=
  if b = Config.cmdSkipRom then .ok .skipRomByte
  else if b = Config.cmdConvertT then .ok .convertTByte
  else if b = Config.cmdReadScratchpad then .ok .readScratchpadByte
  else .error .notWireCommand

/-- Either kind of code. -/
def decodeCode : Code → Except DecodeError Instr
  | .cmd w => decode w
  | .wire b => decodeWire b

/-- The instruction, or none where it is refused. -/
def instrOf : Except DecodeError Instr → Option Instr
  | .ok i => some i
  | .error _ => none

/-- Written from R83's match values, with the operand placed by R82; the wire bytes from R87. -/
def encode : Instr → Code
  | .init => .cmd 0x00000001
  | .resetPulse => .cmd 0x00000002
  | .writeBit b => .cmd (((BitVec.ofBool b).setWidth 32 <<< 8) ||| 0x00000003)
  | .readBit => .cmd 0x00000004
  | .writeByte v => .cmd ((v.setWidth 32 <<< 8) ||| 0x00000005)
  | .readByte => .cmd 0x00000006
  | .delay n => .cmd ((n.setWidth 32 <<< 16) ||| 0x00000007)
  | .readTemperature => .cmd 0x00000008
  | .decode => .cmd 0x00000009
  | .skipRomByte => .wire 0xCC
  | .convertTByte => .wire 0x44
  | .readScratchpadByte => .wire 0xBE

/-- One row of R83's table. -/
structure CmdRow where
  mnemonic : String
  matchBits : Word
  mask : Word
  deriving DecidableEq, Repr

/-- R83's table. The decoder does not read it: that the two agree is stated and proved. -/
def cmdRows : List CmdRow :=
  [ ⟨"INIT", 0x00000001, 0xFFFFFFFF⟩,
    ⟨"RESET_PULSE", 0x00000002, 0xFFFFFFFF⟩,
    ⟨"WRITE_BIT", 0x00000003, 0xFFFFFEFF⟩,
    ⟨"READ_BIT", 0x00000004, 0xFFFFFFFF⟩,
    ⟨"WRITE_BYTE", 0x00000005, 0xFFFF00FF⟩,
    ⟨"READ_BYTE", 0x00000006, 0xFFFFFFFF⟩,
    ⟨"DELAY", 0x00000007, 0x0000FFFF⟩,
    ⟨"READ_TEMPERATURE", 0x00000008, 0xFFFFFFFF⟩,
    ⟨"DECODE", 0x00000009, 0xFFFFFFFF⟩ ]

/-- `(w & mask) = match` (R83). -/
def CmdRow.hit (r : CmdRow) (w : Word) : Bool := w &&& r.mask == r.matchBits

/-- The host's view of the decoder: an 8-bit row is a wire command byte, a 32-bit row a command word. -/
def decodeTableWord (nbits w : Nat) : Option Instr :=
  if nbits ≤ 8 then instrOf (decodeWire (BitVec.ofNat 8 w)) else instrOf (decode (BitVec.ofNat 32 w))

end Sys2Proof
end

