-- ==== Sys2Proof/Machine/State.lean ====
section
/-! DEFINITION. The state of the block, the outside's inputs, the reasons a step can stop, and the state after reset
(10_state.md). -/

namespace Sys2Proof.Machine

/-- The sequencer states of STATUS.SEQ (R28). 0xC to 0xF are never held, so they have no name here. -/
inductive Seq
  | idle | prim | reset1 | skipRom1 | convert | convWait | reset2 | skipRom2 | readSp | readBytes | decode | reset3
  deriving DecidableEq, Repr

/-- The four presence flags (R38). -/
inductive PresFlag
  | pres | pres1 | pres2 | pres3
  deriving DecidableEq, Repr

/-- Where an `SMP()` puts its level (R45). -/
inductive SampleReg
  | s1 | s2 | rb
  deriving DecidableEq, Repr

/-- The bit a write slot sends: the operand of WRITE_BIT (R114), or `SHIFT[0]` inside a byte (R140). -/
inductive BitSource
  | const (b : Bool)
  | shift0
  deriving DecidableEq, Repr

/-- How long a WAIT holds: a count, or one of two counts by the bit being sent (R100, R114). -/
inductive Count
  | ticks (n : Half)
  | byBit (src : BitSource) (one zero : Half)
  deriving DecidableEq, Repr

/-- What a micro-program does in zero ticks: line micro-ops (R11) and register assignments, as the pseudocode of
40_timebase.md to 44_decoder.md names them (R42). -/
inductive MicroOp
  /-- `LOW()`. -/
  | low
  /-- `REL()`. -/
  | rel
  /-- `r <- SMP()`. -/
  | smp (r : SampleReg)
  /-- `seq <- q`. -/
  | setSeq (q : Seq)
  /-- `f <- (S1 = 0) and (S2 = 1)`: a reset pulse's result (R110). -/
  | setPres (f : PresFlag)
  /-- `PRES1 <- 0; PRES2 <- 0; PRES3 <- 0` (R150). -/
  | clearPhasePres
  /-- `ERR_ILL <- 0; ERR_OVR <- 0` (R113). -/
  | clearErrors
  /-- `SHIFT <- v; BITCNT <- 0` (R140, R141). -/
  | loadShift (v : Byte)
  /-- `SHIFT <- SHIFT >> 1; BITCNT <- BITCNT + 1` (R140). -/
  | shiftOut
  /-- `SHIFT <- (SHIFT >> 1) | (zext_8(RB) << 7); BITCNT <- BITCNT + 1` (R141). -/
  | shiftIn
  /-- `DATA <- zext_8(RB)` (R116). -/
  | dataFromBit
  /-- `DATA <- SHIFT` (R141). -/
  | dataFromShift
  /-- `LOOPCNT <- 0` (R150). -/
  | clearLoop
  /-- `LOOPCNT <- LOOPCNT + 1` (R150). -/
  | countLoop
  /-- `BYTECNT <- 0` (R150). -/
  | clearBytes
  /-- `SP[BYTECNT] <- SHIFT; BYTECNT <- BYTECNT + 1` (R150, R156). -/
  | storeSp
  /-- `Decode()` (R180). -/
  | decodeSp
  deriving DecidableEq, Repr

/-- A micro-program, or what is left of one (R42): its counted loops written out, its only branch the presence test (R166). -/
inductive Prog
  /-- The micro-program ends: the command completes (R44(d)). -/
  | done
  /-- A zero-tick micro-op or register assignment, then the rest. -/
  | op (o : MicroOp) (k : Prog)
  /-- `WAIT(n)`, then the rest (R100). -/
  | wait (n : Count) (k : Prog)
  /-- The sequencer sends a 1-Wire command byte, then the rest (R152, R155). -/
  | wire (b : Byte) (k : Prog)
  /-- `if f = 1 then … else …` (R152, R155). -/
  | ifPres (f : PresFlag) (yes no : Prog)
  deriving DecidableEq, Repr

/-- MP, the position in the current micro-program (R42), with "a WAIT is in progress" (R43, R44(c)) in it (log 11). -/
inductive Position
  /-- No micro-program is running. -/
  | empty
  /-- A WAIT is in progress; `k` is what is left after it. -/
  | waiting (k : Prog)
  /-- The sequencer stands at the wire command byte `b`; `k` is what is left after it. No host access sees this position:
  it is passed inside one tick step. -/
  | atWire (b : Byte) (k : Prog)
  deriving DecidableEq, Repr

/-- An event of the bus trace, with its time (R47). -/
inductive LineEvent
  | low (t : Nat)
  | rel (t : Nat)
  | smp (t : Nat) (v : Bool)
  deriving DecidableEq, Repr

/-- What the outside does next (R6, R21, log 1). -/
inductive Event
  /-- One tick; `level` is `ow_in` at that instant, the draw of R24 (log 4). -/
  | tick (level : Bool)
  /-- The host reads `size` bytes at bus address `addr` (R62). -/
  | hostRead (addr size : Nat)
  /-- The host writes `v`, `size` bytes wide, at bus address `addr` (R63). -/
  | hostWrite (addr size : Nat) (v : Word)
  /-- The `rst` port goes to `level` (R230, log 8). -/
  | rst (level : Bool)
  deriving DecidableEq, Repr

/-- The stuck states of the model's own totality (log 14). Neither is reached from a state that meets `ControlInv`
(Safety.lean); both are safe: the machine stops where nothing is said of it. -/
inductive Fault
  /-- Raised by a tick step with PEND = 1 whose PCMD is no legal word. The accept step never leaves one (R200). Safe. -/
  | pendingWordIllegal
  /-- Raised by a tick step at a wire byte that is none of R87's three. No micro-program holds one. Safe. -/
  | noSuchWireCommand
  deriving DecidableEq, Repr

/-- What the model has no step for. -/
inductive Refusal
  /-- An instruction of the table without a meaning: raised by `exec`'s arm of it. Safe. -/
  | notModelled (mnemonic : String)
  /-- Raised by a host access that is not 32 bits wide (R64, I4). Safe ("toward unprovable", D2). -/
  | accessWidth
  /-- Raised by a host access at an offset that is not a multiple of 4 (R64, I4). Safe. -/
  | accessMisaligned
  /-- Raised by a host access outside the window (R64, I4). Safe. -/
  | accessOutsideWindow
  deriving DecidableEq, Repr

/-- The block's state: R48's list, then the ports of R21 and the inputs to come. -/
structure State where
  /-- STATUS.BUSY (R40). -/
  busy : Bool
  /-- STATUS.DRIVE and the port `ow_drive_low` (R23). -/
  drive : Bool
  /-- STATUS.PRES (R38). -/
  pres : Bool
  /-- STATUS.PRES1 (R38). -/
  pres1 : Bool
  /-- STATUS.PRES2 (R38). -/
  pres2 : Bool
  /-- STATUS.PRES3 (R38). -/
  pres3 : Bool
  /-- STATUS.MINUS (R37). -/
  minus : Bool
  /-- STATUS.ERR_ILL (R39). -/
  errIll : Bool
  /-- STATUS.ERR_OVR (R39). -/
  errOvr : Bool
  /-- STATUS.SEQ (R28). -/
  seq : Seq
  /-- DATA (R29). -/
  data : Byte
  /-- TEMP_INT (R30). -/
  tempInt : Byte
  /-- TEMP_FRAC (R31). -/
  tempFrac : BitVec 10
  /-- TEMP_RAW (R32). -/
  tempRaw : Half
  /-- SP[0..8] (R33). -/
  sp : Vector Byte 9
  /-- TB (R22). -/
  tb : Half
  /-- PEND (R41). -/
  pend : Bool
  /-- PCMD (R41). -/
  pcmd : Word
  /-- MP (R42). -/
  mp : Position
  /-- WTGT (R43). -/
  wtgt : Nat
  /-- SHIFT (R45). -/
  shift : Byte
  /-- BITCNT (R45). -/
  bitcnt : Nat
  /-- BYTECNT (R45). -/
  bytecnt : Nat
  /-- LOOPCNT (R45). -/
  loopcnt : Nat
  /-- S1 (R45). -/
  s1 : Bool
  /-- S2 (R45). -/
  s2 : Bool
  /-- RB (R45). -/
  rb : Bool
  /-- GT, model-only (R47). -/
  gt : Nat
  /-- TRACE, model-only, in order (R47). -/
  trace : List LineEvent
  /-- The port `rst` (R21, R230). -/
  rst : Bool
  /-- The port `ow_in` (R21, R24). -/
  owIn : Bool
  /-- What the last host read returned (R21, R62). -/
  rdata : Word
  /-- The model's own field: what the outside does next (log 1). -/
  inputs : List Event
  deriving DecidableEq, Repr

/-- The state after reset (R48). The last four are not controller state: their values are the model's choice (log 5). -/
def State.reset : State where
  busy := false
  drive := false
  pres := false
  pres1 := false
  pres2 := false
  pres3 := false
  minus := false
  errIll := false
  errOvr := false
  seq := .idle
  data := 0
  tempInt := 0
  tempFrac := 0
  tempRaw := 0
  sp := Vector.replicate 9 0
  tb := 0
  pend := false
  pcmd := 0
  mp := .empty
  wtgt := 0
  shift := 0
  bitcnt := 0
  bytecnt := 0
  loopcnt := 0
  s1 := false
  s2 := false
  rb := false
  gt := 0
  trace := []
  rst := false
  owIn := true
  rdata := 0
  inputs := []

end Sys2Proof.Machine
end

