-- ==== Sys2Proof/Machine/Flags.lean ====
section
/-! DEFINITION. STATUS and its flags (10_state.md R27, R28, R37 to R40). -/

namespace Sys2Proof.Machine

/-- The 4-bit encoding of a sequencer state (R28). -/
def Seq.code : Seq → BitVec 4
  | .idle => 0x0
  | .prim => 0x1
  | .reset1 => 0x2
  | .skipRom1 => 0x3
  | .convert => 0x4
  | .convWait => 0x5
  | .reset2 => 0x6
  | .skipRom2 => 0x7
  | .readSp => 0x8
  | .readBytes => 0x9
  | .decode => 0xA
  | .reset3 => 0xB

/-- What a host read of STATUS returns (R27): bits 31:16, 11:10 and 7 are reserved and read 0. -/
def statusWord (s : State) : Word :=
  0#16 ++ s.seq.code ++ 0#2 ++ BitVec.ofBool s.errOvr ++ BitVec.ofBool s.errIll ++ 0#1 ++ BitVec.ofBool s.minus
    ++ BitVec.ofBool s.pres3 ++ BitVec.ofBool s.pres2 ++ BitVec.ofBool s.pres1 ++ BitVec.ofBool s.pres
    ++ BitVec.ofBool s.drive ++ BitVec.ofBool s.busy

/-- The sticky error bits (R39, R206). -/
inductive ErrorBit
  | ill
  | ovr
  deriving DecidableEq, Repr

/-- `raise E(w)` (R200, R11): sets the STATUS bit of E and nothing else. The block has no trap entry (R208). -/
def raise : ErrorBit → State → State
  | .ill, s => { s with errIll := true }
  | .ovr, s => { s with errOvr := true }

/-- A host write of `v` to STATUS (R27): `v[8]` clears ERR_ILL, `v[9]` clears ERR_OVR, every other bit is ignored. -/
def writeStatus (v : Word) (s : State) : State :=
  { s with errIll := s.errIll && !v.getLsbD 8, errOvr := s.errOvr && !v.getLsbD 9 }

/-- INIT's clearing of both error bits (R113). -/
def clearErrors (s : State) : State := { s with errIll := false, errOvr := false }

/-- A reset pulse's result from its two samples: `(S1 = 0) and (S2 = 1)` (R110, R111). -/
def presence (s : State) : Bool := !s.s1 && s.s2

/-- A presence flag's value (R38). -/
def presFlag : PresFlag → State → Bool
  | .pres, s => s.pres
  | .pres1, s => s.pres1
  | .pres2, s => s.pres2
  | .pres3, s => s.pres3

/-- Writes the reset pulse's result to a presence flag (R38). -/
def setPres : PresFlag → State → State
  | .pres, s => { s with pres := presence s }
  | .pres1, s => { s with pres1 := presence s }
  | .pres2, s => { s with pres2 := presence s }
  | .pres3, s => { s with pres3 := presence s }

/-- READ_TEMPERATURE's clearing of the three phase flags (R38, R151). -/
def clearPhasePres (s : State) : State := { s with pres1 := false, pres2 := false, pres3 := false }

end Sys2Proof.Machine
end

