-- ==== Sys2Proof/Machine/Operands.lean ====
section
/-! DEFINITION. Operand forms: the register an offset names and what it reads as (20_memory.md R61, 10_state.md R26 to R36),
the access checks (R64), and the bit and count a micro-op takes. -/

namespace Sys2Proof.Machine

/-- The registers of the window (R61). -/
inductive Reg
  | cmd | status | data | tempInt | tempFrac | tempRaw | sp0 | sp1 | sp2 | tbCount | reserved
  deriving DecidableEq, Repr

/-- The register at an offset (R61); the offsets of a defined access that R61 gives no register are reserved (R36). -/
def regAt : Nat → Reg
  | 0x00 => .cmd
  | 0x04 => .status
  | 0x08 => .data
  | 0x0C => .tempInt
  | 0x10 => .tempFrac
  | 0x14 => .tempRaw
  | 0x18 => .sp0
  | 0x1C => .sp1
  | 0x20 => .sp2
  | 0x24 => .tbCount
  | _ => .reserved

/-- What a host read of a register returns (R26 to R36). No read has a side effect (R62). -/
def readReg : Reg → State → Word
  | .cmd, _ => 0
  | .status, s => statusWord s
  | .data, s => s.data.setWidth 32
  | .tempInt, s => s.tempInt.setWidth 32
  | .tempFrac, s => s.tempFrac.setWidth 32
  | .tempRaw, s => s.tempRaw.setWidth 32
  | .sp0, s => s.sp[3] ++ s.sp[2] ++ s.sp[1] ++ s.sp[0]
  | .sp1, s => s.sp[7] ++ s.sp[6] ++ s.sp[5] ++ s.sp[4]
  | .sp2, s => s.sp[8].setWidth 32
  | .tbCount, s => s.tb.setWidth 32
  | .reserved, _ => 0

/-- The offset of a bus access, or why the model has no step for it (R60, R64, D2, I4). -/
def accessOffset (p : Params) (addr size : Nat) : Except Refusal Nat :=
  if addr < p.base then .error .accessOutsideWindow
  else
    let a : Access := ⟨addr - p.base, size⟩
    if !a.wordSized then .error .accessWidth
    else if !a.inWindow then .error .accessOutsideWindow
    else if !a.aligned then .error .accessMisaligned
    else .ok a.off

/-- The state SEQ takes at the accept step (R86). The wire bytes are never accepted from CMD: they run inside READ_TEMPERATURE. -/
def initialSeq : Instr → Seq
  | .init => .prim
  | .resetPulse => .prim
  | .writeBit _ => .prim
  | .readBit => .prim
  | .writeByte _ => .prim
  | .readByte => .prim
  | .delay _ => .prim
  | .readTemperature => .reset1
  | .decode => .prim
  | .skipRomByte => .skipRom1
  | .convertTByte => .convert
  | .readScratchpadByte => .readSp

/-- The bit a write slot sends (R114, R140). -/
def BitSource.value : BitSource → State → Bool
  | .const b, _ => b
  | .shift0, s => s.shift.getLsbD 0

/-- The count of a WAIT, taken when the WAIT starts (R43, R100, R114). -/
def Count.value : Count → State → Half
  | .ticks n, _ => n
  | .byBit src one zero, s => if src.value s then one else zero

end Sys2Proof.Machine
end

