-- ==== Sys2Proof/Machine/Temperature.lean ====
section
/-! DEFINITION. The arithmetic of the temperature decoder (44_decoder.md R180). -/

namespace Sys2Proof.Machine

/-- `m`: the MSB, complemented where its bit 7 is set; the LSB is never complemented (R180, R182). -/
def magnitudeMsb (msb : Byte) : Byte := if msb.getLsbD 7 then ~~~msb else msb

/-- `ip`, 7 bits: `((m & 0x07) << 4) | (lsb >> 4)` (R180, R183). -/
def integerField (lsb msb : Byte) : Byte := ((magnitudeMsb msb &&& 0x07) <<< 4) ||| (lsb >>> 4)

/-- TEMP_INT: `ip`, negated modulo 2^8 where the MSB's bit 7 is set (R180, R184). -/
def tempIntOf (lsb msb : Byte) : Byte :=
  if msb.getLsbD 7 then 0 - integerField lsb msb else integerField lsb msb

/-- TEMP_FRAC: `((lsb & 0x0F) * 625) div FRAC_DIVISOR`, in a 10-bit field (R180, R185). -/
def tempFracOf (p : Params) (lsb : Byte) : BitVec 10 :=
  BitVec.ofNat 10 ((lsb &&& 0x0F).toNat * 625 / p.fracDivisor)

/-- TEMP_RAW: `{msb, lsb}` (R180). -/
def tempRawOf (lsb msb : Byte) : Half := msb ++ lsb

/-- MINUS: bit 7 of the MSB (R180, R37). -/
def minusOf (msb : Byte) : Bool := msb.getLsbD 7

/-- `Decode()` (R180): reads SP[0] and SP[1], writes the four decoded fields. -/
def decodeSp (p : Params) (s : State) : State :=
  { s with
    tempRaw := tempRawOf s.sp[0] s.sp[1]
    tempInt := tempIntOf s.sp[0] s.sp[1]
    tempFrac := tempFracOf p s.sp[0]
    minus := minusOf s.sp[1] }

end Sys2Proof.Machine
end

