-- ==== Sys2Proof/Machine/Ops.lean ====
section
/-! DEFINITION. The shared operations: micro-ops, WAIT, running a micro-program, completion, the accept step, host accesses,
reset (00_scope.md R11, 10_state.md R44, 40_timebase.md R100, 60_exceptions.md R200, 20_memory.md R62 and R63, R230). -/

namespace Sys2Proof.Machine

/-- `LOW()` (R11, R23, R47): recorded even where the line is already pulled low. -/
def pullLow (s : State) : State := { s with drive := true, trace := s.trace ++ [.low s.gt] }

/-- `REL()` (R11, R23, R47): recorded even where the line is already released. -/
def release (s : State) : State := { s with drive := false, trace := s.trace ++ [.rel s.gt] }

/-- `SMP()` (R11, R24, R47): the level of `ow_in` at this instant, kept in the register named. -/
def sample : SampleReg → State → State
  | .s1, s => { s with s1 := s.owIn, trace := s.trace ++ [.smp s.gt s.owIn] }
  | .s2, s => { s with s2 := s.owIn, trace := s.trace ++ [.smp s.gt s.owIn] }
  | .rb, s => { s with rb := s.owIn, trace := s.trace ++ [.smp s.gt s.owIn] }

/-- `SHIFT <- v; BITCNT <- 0` (R140, R141). -/
def loadShift (v : Byte) (s : State) : State := { s with shift := v, bitcnt := 0 }

/-- `SHIFT <- SHIFT >> 1; BITCNT <- BITCNT + 1` (R140). -/
def shiftOut (s : State) : State := { s with shift := s.shift >>> 1, bitcnt := s.bitcnt + 1 }

/-- `SHIFT <- (SHIFT >> 1) | (zext_8(RB) << 7); BITCNT <- BITCNT + 1` (R141). -/
def shiftIn (s : State) : State :=
  { s with shift := (s.shift >>> 1) ||| ((BitVec.ofBool s.rb).setWidth 8 <<< 7), bitcnt := s.bitcnt + 1 }

/-- `SP[BYTECNT] <- SHIFT; BYTECNT <- BYTECNT + 1` (R150, R156). -/
def storeSp (s : State) : State :=
  { s with sp := s.sp.setIfInBounds s.bytecnt s.shift, bytecnt := s.bytecnt + 1 }

/-- One micro-op or register assignment, zero ticks long (R42, R44(d)). -/
def applyOp (p : Params) : MicroOp → State → State
  | .low, s => pullLow s
  | .rel, s => release s
  | .smp r, s => sample r s
  | .setSeq q, s => { s with seq := q }
  | .setPres f, s => setPres f s
  | .clearPhasePres, s => clearPhasePres s
  | .clearErrors, s => clearErrors s
  | .loadShift v, s => loadShift v s
  | .shiftOut, s => shiftOut s
  | .shiftIn, s => shiftIn s
  | .dataFromBit, s => { s with data := (BitVec.ofBool s.rb).setWidth 8 }
  | .dataFromShift, s => { s with data := s.shift }
  | .clearLoop, s => { s with loopcnt := 0 }
  | .countLoop, s => { s with loopcnt := s.loopcnt + 1 }
  | .clearBytes, s => { s with bytecnt := 0 }
  | .storeSp, s => storeSp s
  | .decodeSp, s => decodeSp p s

/-- `WAIT(n)` starts: `TB <- 0; WTGT <- n + WAIT_EXTRA` (R100, R43). -/
def startWait (p : Params) (n : Half) (s : State) : State := { s with tb := 0, wtgt := n.toNat + p.waitExtra }

/-- The micro-program has ended: `BUSY <- 0; SEQ <- IDLE; PCMD <- 0`, PEND clear, MP empty (R44(d), R41). -/
def complete (s : State) : State := { s with busy := false, seq := .idle, pend := false, pcmd := 0, mp := .empty }

/-- Runs a micro-program in zero ticks until a WAIT holds, the sequencer stands at a wire command byte, or it ends (R44(d)).
A WAIT whose target is 0 completes at once (R100). -/
def run (p : Params) : Prog → State → State
  | .done, s => complete s
  | .op o k, s => run p k (applyOp p o s)
  | .wait n k, s =>
    let t := startWait p (n.value s) s
    if t.wtgt = 0 then run p k t else { t with mp := .waiting k }
  | .wire b k, s => { s with mp := .atWire b k }
  | .ifPres f yes no, s => if presFlag f s then run p yes s else run p no s

/-- The start of a command on its start tick: `PEND <- 0`, and its micro-program runs (R44(b), (d)). -/
def start (p : Params) (k : Prog) (s : State) : State := run p k { s with pend := false }

/-- What is left of the micro-program at a position (R42). -/
def Position.rest : Position → Prog
  | .empty => .done
  | .waiting k => k
  | .atWire _ k => k

/-- A tick's counting: `TB <- (TB + 1) mod 2^16`, `GT <- GT + 1`, and the line's level at this instant (R44(a), R22, R24). -/
def countTick (level : Bool) (s : State) : State := { s with tb := s.tb + 1, gt := s.gt + 1, owIn := level }

/-- R44(c), (d) after the counting: a WAIT in progress completes if `TB >= WTGT`, and the micro-program goes on. -/
def resume (p : Params) (s : State) : State :=
  match s.mp with
  | .waiting k => if s.wtgt ≤ s.tb.toNat then run p k s else s
  | .empty => s
  | .atWire _ _ => s

/-- `n` ticks of a running micro-program under any parameters, the level at time `t` being `lv t` (R100, R102). -/
def coast (p : Params) (lv : Nat → Bool) : Nat → State → State
  | 0, s => s
  | n + 1, s => coast p lv n (resume p (countTick (lv (s.gt + 1)) s))

/-- The third case of R200: a legal word is accepted. No micro-op runs (R44(1)). -/
def accept (w : Word) (i : Instr) (s : State) : State :=
  { s with busy := true, pend := true, pcmd := w, seq := initialSeq i }

/-- The accept step: a host write of `w` to CMD (R200, R26). -/
def acceptStep (w : Word) (s : State) : State :=
  if s.busy then raise .ovr s
  else
    match decode w with
    | .error _ => raise .ill s
    | .ok i => accept w i s

/-- A host write of `v` to a register (R63): CMD and STATUS act, every other write is ignored. -/
def writeReg : Reg → Word → State → State
  | .cmd, v, s => acceptStep v s
  | .status, v, s => writeStatus v s
  | .data, _, s => s
  | .tempInt, _, s => s
  | .tempFrac, _, s => s
  | .tempRaw, _, s => s
  | .sp0, _, s => s
  | .sp1, _, s => s
  | .sp2, _, s => s
  | .tbCount, _, s => s
  | .reserved, _, s => s

/-- Every piece of controller state at its reset value; the ports and the inputs are the outside's (R230, R48, R49). -/
def underReset (s : State) : State :=
  { State.reset with rst := s.rst, owIn := s.owIn, rdata := s.rdata, inputs := s.inputs }

/-- While `rst` = 1 the state is the reset state (R230). -/
def settle (s : State) : State := if s.rst then underReset s else s

/-- A host read (R62): the value goes to the host port, nothing else changes. -/
def hostRead (p : Params) (addr size : Nat) (s : State) : Host.Outcome State Fault Refusal :=
  match accessOffset p addr size with
  | .error r => .refused r
  | .ok off => .next { s with rdata := readReg (regAt off) s }

/-- A host write (R63). While `rst` = 1 it changes nothing (R230, log 8). -/
def hostWrite (p : Params) (addr size : Nat) (v : Word) (s : State) : Host.Outcome State Fault Refusal :=
  match accessOffset p addr size with
  | .error r => .refused r
  | .ok off => .next (if s.rst then s else writeReg (regAt off) v s)

/-- The `rst` port goes to `level` (R230, R231). -/
def driveRst (level : Bool) (s : State) : State :=
  if level then { underReset s with rst := true } else { s with rst := false }

end Sys2Proof.Machine
end

