-- ==== Sys2Proof/Machine/Link.lean ====
section
/-! DEFINITION. Link layer: RESET_PULSE, INIT, WRITE_BIT, READ_BIT and the procedures the layers above call (41_link_layer.md).
A procedure takes `k`, what comes after it. -/

namespace Sys2Proof.Machine

/-- `ResetPresence()` (R110). Its result is `presence` of the two samples. -/
def resetPresence (p : Params) (k : Prog) : Prog :=
  .op .low <| .wait (.ticks p.tRstl) <|
  .op .rel <| .wait (.ticks p.tPds) <|
  .op (.smp .s1) <| .wait (.ticks p.tPdr) <|
  .op (.smp .s2) k

/-- `WriteBit(b)` (R114). -/
def writeBit (p : Params) (b : BitSource) (k : Prog) : Prog :=
  .op .low <| .wait (.byBit b p.tW1l p.tW0l) <|
  .op .rel <| .wait (.byBit b p.tW1h p.tW0h) k

/-- `ReadBit()` (R116). Its result is RB. -/
def readBit (p : Params) (k : Prog) : Prog :=
  .op .low <| .wait (.ticks p.tRl) <|
  .op .rel <| .wait (.ticks p.tRs) <|
  .op (.smp .rb) <| .wait (.ticks p.tRrec) k

/-- RESET_PULSE's micro-program (R110). -/
def resetPulseProg (p : Params) : Prog := resetPresence p (.op (.setPres .pres) .done)

/-- INIT's micro-program (R113). -/
def initProg : Prog := .op .rel (.op .clearErrors .done)

/-- WRITE_BIT's micro-program (R114). -/
def writeBitProg (p : Params) (b : Bool) : Prog := writeBit p (.const b) .done

/-- READ_BIT's micro-program (R116). -/
def readBitProg (p : Params) : Prog := readBit p (.op .dataFromBit .done)

/-- `RESET_PULSE` on its start tick (R110). -/
def execResetPulse (s : State) : Host.Outcome State Fault Refusal :=
  .next (start Config.params (resetPulseProg Config.params) s)

/-- `INIT` on its start tick, where it also completes (R113). -/
def execInit (s : State) : Host.Outcome State Fault Refusal := .next (start Config.params initProg s)

/-- `WRITE_BIT b` on its start tick (R114). -/
def execWriteBit (b : Bool) (s : State) : Host.Outcome State Fault Refusal :=
  .next (start Config.params (writeBitProg Config.params b) s)

/-- `READ_BIT` on its start tick (R116). -/
def execReadBit (s : State) : Host.Outcome State Fault Refusal :=
  .next (start Config.params (readBitProg Config.params) s)

end Sys2Proof.Machine
end

