-- ==== Sys2Proof/Machine/Bytes.lean ====
section
/-! DEFINITION. Byte layer: WRITE_BYTE, READ_BYTE and the procedures READ_TEMPERATURE calls (42_byte_layer.md). -/

namespace Sys2Proof.Machine

/-- `n` write slots, each of `SHIFT[0]`, each followed by the shift (R140). -/
def slotsOut (p : Params) : Nat → Prog → Prog
  | 0, k => k
  | n + 1, k => writeBit p .shift0 (.op .shiftOut (slotsOut p n k))

/-- `WriteByte(value)` (R140). -/
def writeByte (p : Params) (value : Byte) (k : Prog) : Prog := .op (.loadShift value) (slotsOut p 8 k)

/-- `n` read slots, each followed by the shift (R141). -/
def slotsIn (p : Params) : Nat → Prog → Prog
  | 0, k => k
  | n + 1, k => readBit p (.op .shiftIn (slotsIn p n k))

/-- `ReadByte()` (R141, D21). Its result is SHIFT. -/
def readByte (p : Params) (k : Prog) : Prog := .op (.loadShift 0x00) (slotsIn p 8 k)

/-- WRITE_BYTE's micro-program (R140). -/
def writeByteProg (p : Params) (value : Byte) : Prog := writeByte p value .done

/-- READ_BYTE's micro-program (R141): DATA changes only at completion. -/
def readByteProg (p : Params) : Prog := readByte p (.op .dataFromShift .done)

/-- `WRITE_BYTE value` on its start tick (R140). -/
def execWriteByte (value : Byte) (s : State) : Host.Outcome State Fault Refusal :=
  .next (start Config.params (writeByteProg Config.params value) s)

/-- `READ_BYTE` on its start tick (R141). -/
def execReadByte (s : State) : Host.Outcome State Fault Refusal :=
  .next (start Config.params (readByteProg Config.params) s)

end Sys2Proof.Machine
end

