-- ==== Sys2Proof/Machine/Decoder.lean ====
section
/-! DEFINITION. DECODE (44_decoder.md R181). The arithmetic is in Temperature.lean. -/

namespace Sys2Proof.Machine

/-- DECODE's micro-program (R181). -/
def decodeProg : Prog := .op .decodeSp .done

/-- `DECODE` on its start tick, where it also completes (R181). -/
def execDecode (s : State) : Host.Outcome State Fault Refusal := .next (start Config.params decodeProg s)

end Sys2Proof.Machine
end

