-- ==== Sys2Proof/Machine/TimeBase.lean ====
section
/-! DEFINITION. Time base: DELAY (40_timebase.md). The WAIT micro-op is in Ops.lean. -/

namespace Sys2Proof.Machine

/-- DELAY's micro-program (R101). -/
def delayProg (n : Half) : Prog := .wait (.ticks n) .done

/-- `DELAY n` on its start tick (R101): `WAIT(n)`, no line activity. -/
def execDelay (n : Half) (s : State) : Host.Outcome State Fault Refusal := .next (start Config.params (delayProg n) s)

end Sys2Proof.Machine
end

