-- ==== Sys2Proof/Machine/Transaction.lean ====
section
/-! DEFINITION. Transaction layer: READ_TEMPERATURE (43_transaction.md R150 to R166). -/

namespace Sys2Proof.Machine

/-- Phase 3 (R158): the bus release, whatever came before. -/
def phase3 (p : Params) : Prog :=
  .op (.setSeq .reset3) <| resetPresence p <| .op (.setPres .pres3) .done

/-- `SP[BYTECNT] <- ReadByte()`, `n` more times (R156). -/
def scratchpadReads (p : Params) : Nat → Prog → Prog
  | 0, k => k
  | n + 1, k => readByte p (.op .storeSp (scratchpadReads p n k))

/-- Phase 2's block, run where PRES2 = 1 (R155, R156, R157). -/
def phase2Block (p : Params) (k : Prog) : Prog :=
  .op (.setSeq .skipRom2) <| .wire Config.cmdSkipRom <|
  .op (.setSeq .readSp) <| .wire Config.cmdReadScratchpad <|
  .op (.setSeq .readBytes) <| .op .clearBytes <| scratchpadReads p Config.spBytes <|
  .op (.setSeq .decode) <| .op .decodeSp k

/-- Phase 2 and what follows it (R154, R155). -/
def phase2 (p : Params) : Prog :=
  .op (.setSeq .reset2) <| resetPresence p <| .op (.setPres .pres2) <|
  .ifPres .pres2 (phase2Block p (phase3 p)) (phase3 p)

/-- `WAIT(CONVERT_CHUNK); LOOPCNT <- LOOPCNT + 1`, `n` more times (R153). -/
def convertWaits (p : Params) : Nat → Prog → Prog
  | 0, k => k
  | n + 1, k => .wait (.ticks p.convertChunk) (.op .countLoop (convertWaits p n k))

/-- The conversion wait, run whatever PRES1 is, and what follows it (R153). -/
def conversionWait (p : Params) : Prog :=
  .op (.setSeq .convWait) <| .op .clearLoop <| convertWaits p p.convertLoops <| phase2 p

/-- Phase 1's block, run where PRES1 = 1 (R152). -/
def phase1Block (k : Prog) : Prog :=
  .op (.setSeq .skipRom1) <| .wire Config.cmdSkipRom <|
  .op (.setSeq .convert) <| .wire Config.cmdConvertT k

/-- READ_TEMPERATURE's micro-program (R150, R151). -/
def readTemperatureProg (p : Params) : Prog :=
  .op .clearPhasePres <| .op (.setSeq .reset1) <| resetPresence p <| .op (.setPres .pres1) <|
  .ifPres .pres1 (phase1Block (conversionWait p)) (conversionWait p)

/-- `READ_TEMPERATURE` on its start tick (R150). -/
def execReadTemperature (s : State) : Host.Outcome State Fault Refusal :=
  .next (start Config.params (readTemperatureProg Config.params) s)

end Sys2Proof.Machine
end

