-- ==== Sys2Proof/Machine/Wire.lean ====
section
/-! DEFINITION. The three 1-Wire command bytes (30_encoding.md R87, 43_transaction.md R152 and R155): the sequencer sends the byte
through `WriteByte` and goes on with what is left of its micro-program (log 12). -/

namespace Sys2Proof.Machine

/-- Sends a wire command byte, then what is left at the present position (R140, R152, R155). -/
def sendWireByte (p : Params) (b : Byte) (s : State) : State := run p (writeByte p b s.mp.rest) s

/-- Skip ROM, 0xCC (R152, R155). -/
def execSkipRomByte (s : State) : Host.Outcome State Fault Refusal :=
  .next (sendWireByte Config.params Config.cmdSkipRom s)

/-- Convert T, 0x44 (R152). -/
def execConvertTByte (s : State) : Host.Outcome State Fault Refusal :=
  .next (sendWireByte Config.params Config.cmdConvertT s)

/-- Read Scratchpad, 0xBE (R155). -/
def execReadScratchpadByte (s : State) : Host.Outcome State Fault Refusal :=
  .next (sendWireByte Config.params Config.cmdReadScratchpad s)

end Sys2Proof.Machine
end

