-- ==== Sys2Proof/Machine/Dispatch.lean ====
section
/-! DEFINITION. One arm per instruction. -/

namespace Sys2Proof.Machine

def exec (i : Instr) (s : State) : Host.Outcome State Fault Refusal :=
  match i with
  | .init => Sys2Proof.Machine.execInit s
  | .resetPulse => Sys2Proof.Machine.execResetPulse s
  | .writeBit b => Sys2Proof.Machine.execWriteBit b s
  | .readBit => Sys2Proof.Machine.execReadBit s
  | .writeByte value => Sys2Proof.Machine.execWriteByte value s
  | .readByte => Sys2Proof.Machine.execReadByte s
  | .delay n => Sys2Proof.Machine.execDelay n s
  | .readTemperature => Sys2Proof.Machine.execReadTemperature s
  | .decode => Sys2Proof.Machine.execDecode s
  | .skipRomByte => Sys2Proof.Machine.execSkipRomByte s
  | .convertTByte => Sys2Proof.Machine.execConvertTByte s
  | .readScratchpadByte => Sys2Proof.Machine.execReadScratchpadByte s

end Sys2Proof.Machine
end

