-- ==== Sys2Proof/Machine/Tick.lean ====
section
/-! DEFINITION. The tick step (10_state.md R44): fetching the pending command word, or the wire byte the sequencer stands at, and
running it through `exec`. -/

namespace Sys2Proof.Machine

/-- Where the sequencer stands at a wire command byte, that byte is decoded and sent in the same step (R44(d), R152, R155). -/
def sendFetchedByte (s : State) : Host.Outcome State Fault Refusal :=
  match s.mp with
  | .atWire b _ =>
    match decodeWire b with
    | .ok i => exec i s
    | .error _ => .fault .noSuchWireCommand
  | .empty => .next s
  | .waiting _ => .next s

/-- The start of the pending command (R44(b)): PCMD is decoded and run. -/
def startPending (s : State) : Host.Outcome State Fault Refusal :=
  match decode s.pcmd with
  | .ok i => exec i s
  | .error _ => .fault .pendingWordIllegal

/-- A tick step (R44(2)). While `rst` = 1 it only keeps the reset state (R230). -/
def tickStep (level : Bool) (s : State) : Host.Outcome State Fault Refusal :=
  if s.rst then .next s
  else
    let t := countTick level s
    if t.pend then startPending t else sendFetchedByte (resume Config.params t)

/-- One input of the outside (R6). -/
def handle (e : Event) (s : State) : Host.Outcome State Fault Refusal :=
  match e with
  | .tick level => tickStep level s
  | .hostRead addr size => hostRead Config.params addr size s
  | .hostWrite addr size v => hostWrite Config.params addr size v s
  | .rst level => .next (driveRst level s)

/-- The accept step of `w` as R200 leaves it, with the first tick after it to come; an illegal word stays pending. -/
def placeCommand (w : Word) (s : State) : State :=
  let q := match decode w with
    | .ok i => initialSeq i
    | .error _ => .prim
  { s with
    busy := true, pend := true, pcmd := w, seq := q, mp := .empty, rst := false
    inputs := .tick true :: s.inputs }

/-- READ_TEMPERATURE standing at the wire byte `b` with nothing after it, a tick to come (log 13). -/
def placeWireByte (b : Byte) (s : State) : State :=
  let q := match decodeWire b with
    | .ok i => initialSeq i
    | .error _ => .prim
  { s with
    busy := true, pend := false, pcmd := 0x00000008, seq := q, mp := .atWire b .done, rst := false
    inputs := .tick true :: s.inputs }

end Sys2Proof.Machine
end

