-- ==== Sys2Proof/Machine/Step.lean ====
section
/-! DEFINITION. One step of the machine: the next input of the outside. -/

namespace Sys2Proof.Machine

/-- Takes the first input (log 1). With no input left nothing happens: no controller step happens at any other time (R6), so a
WAIT in progress holds forever (R106, I2). While `rst` = 1 the state is the reset state (R230). -/
def step (s : State) : Host.Outcome State Fault Refusal :=
  match s.inputs with
  | [] => .next s
  | e :: rest => handle e (settle { s with inputs := rest })

/-- `s` with the table row's word where the next step fetches: an 8-bit row at the sequencer's wire byte, a 32-bit row in PCMD
with PEND = 1 (log 3, log 13). -/
def State.withFetchWord (s : State) (nbits w : Nat) : State :=
  if nbits ≤ 8 then placeWireByte (BitVec.ofNat 8 w) s else placeCommand (BitVec.ofNat 32 w) s

end Sys2Proof.Machine
end

