-- ==== Sys2Proof/Safety.lean ====
section
/-! DEFINITION. The terms claims use: runs of ticks, the waveforms and end states the spec gives each command, and the invariants a
safe run keeps. -/

namespace Sys2Proof.Machine

/-! ### Runs of ticks -/

/-- Goes on from a next state; a stop stays a stop. -/
def andThen (o : Host.Outcome State Fault Refusal) (f : State → Host.Outcome State Fault Refusal) :
    Host.Outcome State Fault Refusal :=
  match o with
  | .next s => f s
  | .fault r => .fault r
  | .refused r => .refused r

/-- One `step` on a tick placed before the other inputs. `lv t` is the line's level at GT = t: 95_test_vectors.md's
"draw at t = v". -/
def tickOnce (lv : Nat → Bool) (s : State) : Host.Outcome State Fault Refusal :=
  step { s with inputs := .tick (lv (s.gt + 1)) :: s.inputs }

/-- `n` steps, each on a tick, no host access between them. -/
def ticks (lv : Nat → Bool) : Nat → State → Host.Outcome State Fault Refusal
  | 0, s => .next s
  | n + 1, s => andThen (tickOnce lv s) (ticks lv n)

/-- `i` starts at `s`, `n` ticks follow it, and every step answers a next state: the last is `u`. -/
def Completes (i : Instr) (s : State) (lv : Nat → Bool) (n : Nat) (u : State) : Prop :=
  ∃ t, exec i s = .next t ∧ ticks lv n t = .next u

/-- BUSY is 1 after `i` starts and after each of the first `n - 1` ticks that follow, and 0 after the `n`-th (R250). -/
def TakesTicks (i : Instr) (s : State) (lv : Nat → Bool) (n : Nat) : Prop :=
  ∃ t, exec i s = .next t ∧
    (∀ j, j < n → ∃ u, ticks lv j t = .next u ∧ u.busy = true) ∧
    ∃ u, ticks lv n t = .next u ∧ u.busy = false

/-- The micro-program starts a WAIT, its own or the first of a wire byte it comes to, before it ends (R44(d), R100, R140). -/
def Prog.startsWait (p : Params) : Prog → State → Bool
  | .done, _ => false
  | .op o k, s => k.startsWait p (applyOp p o s)
  | .wait _ _, _ => true
  | .wire _ _, _ => true
  | .ifPres f yes no, s => if presFlag f s then yes.startsWait p s else no.startsWait p s

/-- A WAIT starts in the tick step from `s`: a pending command is any but INIT and DECODE (R113, R181), or the WAIT in progress
completes and another follows (R44(c), (d)), or the sequencer stands at a wire byte. -/
def tickStartsWait (level : Bool) (s : State) : Bool :=
  if s.pend then decode s.pcmd != .ok .init && decode s.pcmd != .ok .decode
  else
    match s.mp with
    | .empty => false
    | .waiting k => decide (s.wtgt ≤ (s.tb + 1).toNat) && k.startsWait Config.params (countTick level s)
    | .atWire _ _ => true

/-! ### Waveforms, from the tables of R121, R140, R141 and R161; `t` is the procedure's start -/

/-- The result of a reset pulse (R111). -/
def presenceAt (lv : Nat → Bool) (t : Nat) : Bool := !lv (t + 550) && lv (t + 960)

/-- The byte a ReadByte assembles: its i-th sample is bit i (R141). -/
def byteAt (lv : Nat → Bool) (t : Nat) : Byte := BitVec.ofFnLE fun i : Fin 8 => lv (t + 65 * i + 10)

/-- ResetPresence's line events. -/
def resetTrace (lv : Nat → Bool) (t : Nat) : List LineEvent :=
  [.low t, .rel (t + 480), .smp (t + 550) (lv (t + 550)), .smp (t + 960) (lv (t + 960))]

/-- WriteBit's line events. -/
def writeBitTrace (b : Bool) (t : Nat) : List LineEvent := [.low t, .rel (t + if b then 10 else 65)]

/-- ReadBit's line events. -/
def readBitTrace (lv : Nat → Bool) (t : Nat) : List LineEvent :=
  [.low t, .rel (t + 5), .smp (t + 10) (lv (t + 10))]

/-- WriteByte's line events: bit i's slot starts at t + 75 i. -/
def writeByteTrace (v : Byte) (t : Nat) : List LineEvent :=
  (List.range 8).flatMap fun i => writeBitTrace (v.getLsbD i) (t + 75 * i)

/-- ReadByte's line events: slot i starts at t + 65 i. -/
def readByteTrace (lv : Nat → Bool) (t : Nat) : List LineEvent :=
  (List.range 8).flatMap fun i => readBitTrace lv (t + 65 * i)

/-! ### READ_TEMPERATURE's schedule (R150 to R161), `t` its start tick -/

/-- When reset pulse 2 starts: after reset pulse 1, the two writes where PRES1 = 1, and the wait (R160). -/
def reset2Start (lv : Nat → Bool) (t : Nat) : Nat := t + 960 + (if presenceAt lv t then 1200 else 0) + 750000

/-- PRES2's value at the end. -/
def secondPresence (lv : Nat → Bool) (t : Nat) : Bool := presenceAt lv (reset2Start lv t)

/-- When reset pulse 3 starts: after reset pulse 2, and the two writes and nine reads where PRES2 = 1 (R160). -/
def reset3Start (lv : Nat → Bool) (t : Nat) : Nat :=
  reset2Start lv t + 960 + (if secondPresence lv t then 1200 + 4680 else 0)

/-- When ReadByte k starts, where PRES2 = 1 (R156, R161). -/
def scratchByteStart (lv : Nat → Bool) (t k : Nat) : Nat := reset2Start lv t + 960 + 1200 + 520 * k

/-- Ticks from the start tick to completion (R160). -/
def readTemperatureTicks (lv : Nat → Bool) (t : Nat) : Nat := reset3Start lv t + 960 - t

/-- All line events of a READ_TEMPERATURE (R150, R161). -/
def readTemperatureTrace (lv : Nat → Bool) (t : Nat) : List LineEvent :=
  resetTrace lv t ++
  (if presenceAt lv t then writeByteTrace 0xCC (t + 960) ++ writeByteTrace 0x44 (t + 1560) else []) ++
  resetTrace lv (reset2Start lv t) ++
  (if secondPresence lv t then
      writeByteTrace 0xCC (reset2Start lv t + 960) ++ writeByteTrace 0xBE (reset2Start lv t + 1560) ++
        (List.range 9).flatMap (fun k => readByteTrace lv (scratchByteStart lv t k))
    else []) ++
  resetTrace lv (reset3Start lv t)

/-- The nine bytes read, where PRES2 = 1 (R156). -/
def scratchpadAt (lv : Nat → Bool) (t : Nat) : Vector Byte 9 :=
  Vector.ofFn fun k : Fin 9 => byteAt lv (scratchByteStart lv t k)

/-- What every command leaves when it completes at GT = t, its last WAIT having been of `w` ticks (R40, R41, R44(d)). -/
def idleAt (t w : Nat) (lv : Nat → Bool) (s : State) : State :=
  { s with busy := false, seq := .idle, pend := false, pcmd := 0, mp := .empty, drive := false
           tb := BitVec.ofNat 16 w, wtgt := w, gt := t, owIn := lv t }

/-- The scratchpad and the decoded fields after a READ_TEMPERATURE: fresh where PRES2 = 1, else as they were (R155, R157, R162). -/
def withReading (fresh : Bool) (sp : Vector Byte 9) (rb : Bool) (s : State) : State :=
  if fresh then
    { s with sp := sp, bytecnt := 9, shift := sp[8], bitcnt := 8, rb := rb
             tempRaw := tempRawOf sp[0] sp[1], tempInt := tempIntOf sp[0] sp[1]
             tempFrac := tempFracOf Config.params sp[0], minus := minusOf sp[1] }
  else s

/-- READ_TEMPERATURE's end state, every field (R150 to R162). -/
def readTemperatureEnd (lv : Nat → Bool) (s : State) : State :=
  let t := s.gt
  let t3 := reset3Start lv t
  let sent := if presenceAt lv t then { s with shift := 0, bitcnt := 8 } else s
  let got := withReading (secondPresence lv t) (scratchpadAt lv t) (lv (scratchByteStart lv t 8 + 465)) sent
  idleAt (t3 + 960) 410 lv
    { got with pres1 := presenceAt lv t, pres2 := secondPresence lv t, pres3 := presenceAt lv t3
               loopcnt := 100, s1 := lv (t3 + 550), s2 := lv (t3 + 960)
               trace := s.trace ++ readTemperatureTrace lv t }

/-- SEQ after `j` ticks of a READ_TEMPERATURE started at `t` (R28, R150): the nine bytes end in the step that decodes and starts
reset pulse 3. -/
def seqAfter (lv : Nat → Bool) (t j : Nat) : Seq :=
  if t + j < t + 960 then .reset1
  else if presenceAt lv t ∧ t + j < t + 1560 then .skipRom1
  else if presenceAt lv t ∧ t + j < t + 2160 then .convert
  else if t + j < reset2Start lv t then .convWait
  else if t + j < reset2Start lv t + 960 then .reset2
  else if secondPresence lv t ∧ t + j < reset2Start lv t + 1560 then .skipRom2
  else if secondPresence lv t ∧ t + j < reset2Start lv t + 2160 then .readSp
  else if t + j < reset3Start lv t then .readBytes
  else if t + j < reset3Start lv t + 960 then .reset3
  else .idle

/-- A presence flag's value `j` ticks after the start tick `t`: 0 until its reset pulse, started at `r`, completes (R73, R151). -/
def presAfter (lv : Nat → Bool) (t r j : Nat) : Bool := decide (r + 960 ≤ t + j) && presenceAt lv r

/-- SP `j` ticks after the start tick `t`: byte k is new from the step in which it completes, where PRES2 = 1 (R73, R156). -/
def spAfter (lv : Nat → Bool) (t j : Nat) (old : Vector Byte 9) : Vector Byte 9 :=
  Vector.ofFn fun k : Fin 9 =>
    if secondPresence lv t ∧ scratchByteStart lv t k + 520 ≤ t + j then byteAt lv (scratchByteStart lv t k) else old[k]

/-- The decode step of a READ_TEMPERATURE started at `t` has run `j` ticks later: it runs in the step that ends the ninth byte (R157). -/
def decodedAfter (lv : Nat → Bool) (t j : Nat) : Bool :=
  secondPresence lv t && decide (scratchByteStart lv t 8 + 520 ≤ t + j)

/-! ### What the host reads, as numbers (R26 to R36) -/

/-- STATUS by R27's table: each field's bit number is its weight's exponent; SEQ stands at bit 12. -/
def statusValue (s : State) : Nat :=
  s.busy.toNat + 2 * s.drive.toNat + 4 * s.pres.toNat + 8 * s.pres1.toNat + 16 * s.pres2.toNat + 32 * s.pres3.toNat
    + 64 * s.minus.toNat + 256 * s.errIll.toNat + 512 * s.errOvr.toNat + 4096 * s.seq.code.toNat

/-- The value of the register at an offset, by R26 to R36. -/
def windowValue (s : State) (a : Nat) : Nat :=
  if a = 0x04 then statusValue s
  else if a = 0x08 then s.data.toNat
  else if a = 0x0C then s.tempInt.toNat
  else if a = 0x10 then s.tempFrac.toNat
  else if a = 0x14 then s.tempRaw.toNat
  else if a = 0x18 then s.sp[0].toNat + 2 ^ 8 * s.sp[1].toNat + 2 ^ 16 * s.sp[2].toNat + 2 ^ 24 * s.sp[3].toNat
  else if a = 0x1C then s.sp[4].toNat + 2 ^ 8 * s.sp[5].toNat + 2 ^ 16 * s.sp[6].toNat + 2 ^ 24 * s.sp[7].toNat
  else if a = 0x20 then s.sp[8].toNat
  else if a = 0x24 then s.tb.toNat
  else 0

/-! ### Invariants -/

/-- What is left of a micro-program, the line now at `drive`, samples only while the line is released, leaves SEQ out of IDLE until it
ends, holds only wire bytes of R87, and ends with the line released (R119, R28, R87). -/
def Prog.lineSafe (drive : Bool) : Prog → Bool
  | .done => !drive
  | .op .low k => k.lineSafe true
  | .op .rel k => k.lineSafe false
  | .op (.smp _) k => !drive && k.lineSafe drive
  | .op (.setSeq q) k => q != .idle && k.lineSafe drive
  | .op _ k => k.lineSafe drive
  | .wait _ k => k.lineSafe drive
  | .wire b k => (instrOf (decodeWire b)).isSome && k.lineSafe false
  | .ifPres _ yes no => yes.lineSafe drive && no.lineSafe drive

/-- The same of a position. -/
def Position.lineSafe (drive : Bool) : Position → Bool
  | .empty => true
  | .waiting k => k.lineSafe drive
  | .atWire b k => (instrOf (decodeWire b)).isSome && k.lineSafe false

/-- The control state is one the steps can leave: R46's four claims follow from it. -/
abbrev ControlInv (s : State) : Prop :=
  (s.busy = false → s.pend = false ∧ s.seq = .idle ∧ s.mp = .empty ∧ s.drive = false) ∧
  (s.busy = true → s.seq ≠ .idle) ∧
  (s.pend = true → s.mp = .empty ∧ s.drive = false ∧ (instrOf (decode s.pcmd)).isSome = true) ∧
  (s.busy = true → s.pend = false → s.mp ≠ .empty) ∧
  s.mp.lineSafe s.drive = true

/-- The level the recorded events leave the controller's driver at, `none` where a sample was taken while it pulled low (R47, R119). -/
def traceDrive : List LineEvent → Option Bool :=
  List.foldl
    (fun d e =>
      match e with
      | .low _ => d.map fun _ => true
      | .rel _ => d.map fun _ => false
      | .smp _ _ => if d = some false then d else none)
    (some false)

/-- TRACE agrees with DRIVE, and every recorded sample was taken while the line was released (R23, R47, R119). -/
abbrev WaveformInv (s : State) : Prop := traceDrive s.trace = some s.drive

/-- An event's time (R47). -/
def LineEvent.time : LineEvent → Nat
  | .low t => t
  | .rel t => t
  | .smp t _ => t

/-- TRACE is in time order and none of it lies ahead of GT (R47). -/
abbrev TimedInv (s : State) : Prop :=
  (s.trace.map LineEvent.time).Pairwise (· ≤ ·) ∧ ∀ e ∈ s.trace, e.time ≤ s.gt

/-- The decoded fields equal `Decode(SP)` (R163). -/
abbrev Fresh (s : State) : Prop :=
  s.tempRaw = tempRawOf s.sp[0] s.sp[1] ∧ s.tempInt = tempIntOf s.sp[0] s.sp[1] ∧
  s.tempFrac = tempFracOf Config.params s.sp[0] ∧ s.minus = minusOf s.sp[1]

/-- What is left of a micro-program ends with the decoded fields equal to `Decode(SP)`, where they now are so iff `fresh`. -/
def Prog.settles (fresh : Bool) : Prog → Bool
  | .done => fresh
  | .op .storeSp k => k.settles false
  | .op .decodeSp k => k.settles true
  | .op _ k => k.settles fresh
  | .wait _ k => k.settles fresh
  | .wire _ k => k.settles fresh
  | .ifPres _ yes no => yes.settles fresh && no.settles fresh

/-- The same of a position. -/
def Position.settles (fresh : Bool) : Position → Bool
  | .empty => fresh
  | .waiting k => k.settles fresh
  | .atWire _ k => k.settles fresh

/-- Either the decoded fields equal `Decode(SP)`, or the running command will still decode (R163). -/
abbrev DecodeInv (s : State) : Prop :=
  (Fresh s ∧ s.mp.settles true = true) ∨ (s.pend = false ∧ s.mp.settles false = true)

/-- What is left of a micro-program keeps the counters in the ranges R45 gives them, from the present counts on. -/
def Prog.countsIn (bit byte loop : Nat) : Prog → Bool
  | .done => true
  | .op (.loadShift _) k => k.countsIn 0 byte loop
  | .op .shiftOut k => bit < 8 && k.countsIn (bit + 1) byte loop
  | .op .shiftIn k => bit < 8 && k.countsIn (bit + 1) byte loop
  | .op .clearBytes k => k.countsIn bit 0 loop
  | .op .storeSp k => byte < 9 && k.countsIn bit (byte + 1) loop
  | .op .clearLoop k => k.countsIn bit byte 0
  | .op .countLoop k => loop < 100 && k.countsIn bit byte (loop + 1)
  | .op _ k => k.countsIn bit byte loop
  | .wait _ k => k.countsIn bit byte loop
  | .wire _ k => k.countsIn 8 byte loop
  | .ifPres _ yes no => yes.countsIn bit byte loop && no.countsIn bit byte loop

/-- BITCNT is in 0..8, BYTECNT in 0..9, LOOPCNT in 0..100, and the running micro-program keeps them so (R45). -/
abbrev CounterInv (s : State) : Prop :=
  s.bitcnt ≤ 8 ∧ s.bytecnt ≤ 9 ∧ s.loopcnt ≤ 100 ∧
  (match s.mp with
    | .empty => true
    | .waiting k => k.countsIn s.bitcnt s.bytecnt s.loopcnt
    | .atWire _ k => k.countsIn 8 s.bytecnt s.loopcnt) = true

/-- What is left of a micro-program leaves both error bits alone: only INIT's clears them (R39). -/
def Prog.keepsErrors : Prog → Bool
  | .done => true
  | .op .clearErrors _ => false
  | .op _ k => k.keepsErrors
  | .wait _ k => k.keepsErrors
  | .wire _ k => k.keepsErrors
  | .ifPres _ yes no => yes.keepsErrors && no.keepsErrors

/-- No WAIT in progress has INIT's clearing ahead of it: INIT completes on its start tick (R113). -/
abbrev ErrorInv (s : State) : Prop := s.mp.rest.keepsErrors = true

/-- The two states differ at most in ERR_ILL, ERR_OVR and what the last host read returned. -/
abbrev SameButErrors (s t : State) : Prop :=
  t = { s with errIll := t.errIll, errOvr := t.errOvr, rdata := t.rdata }

end Sys2Proof.Machine
end

