-- ==== Sys2Proof/Certificates/Slice0/Obligations.lean ====
section
/-! DEFINITION. The statements for the provers. -/

open Sys2Proof Sys2Proof.Machine

/-! ### Encoding (30_encoding.md) -/

/-- Decoding an instruction's encoding gives it back, every operand at every value. -/
def Obligations.DecodeOfEncodeIsIdentity : Prop :=
  ∀ i : Instr, decodeCode (encode i) = .ok i

/-- Each legal word, and each wire byte, is the encoding of what it decodes to: no bit is dropped. -/
def Obligations.EncodeOfDecodeIsIdentity : Prop :=
  ∀ (c : Code) (i : Instr), decodeCode c = .ok i → encode i = c

/-- R83, R85: a word is legal if and only if it matches a row of R83's table, and it never matches two. -/
def Obligations.LegalWordsMatchExactlyOneRow : Prop :=
  ∀ w : Word,
    ((∃ i, decode w = .ok i) ↔ ∃ r ∈ cmdRows, r.hit w = true) ∧
    (∀ i, decode w = .ok i → ∃ r ∈ cmdRows, r.hit w = true ∧ r.mnemonic = i.mnemonic) ∧
    (∀ r ∈ cmdRows, ∀ r' ∈ cmdRows, r.hit w = true → r'.hit w = true → r = r')

/-- R84: the four causes, and what an illegal word written to an idle controller does. -/
def Obligations.IllegalWordsAreTheFourCauses : Prop :=
  ∀ w : Word,
    ((∀ i, decode w ≠ .ok i) ↔
      (w.toNat % 16 = 0 ∨ 10 ≤ w.toNat % 16) ∨
      w.toNat / 16 % 16 ≠ 0 ∨
      (w.toNat / 256 % 256 ≠ 0 ∧ w.toNat % 16 ≠ 3 ∧ w.toNat % 16 ≠ 5) ∨
      (w.toNat / 512 % 128 ≠ 0 ∧ w.toNat % 16 = 3) ∨
      (w.toNat / 65536 ≠ 0 ∧ w.toNat % 16 ≠ 7)) ∧
    (∀ (s : State) (rest : List Event), s.inputs = .hostWrite Config.base 4 w :: rest → s.rst = false → s.busy = false →
      (∀ i, decode w ≠ .ok i) → step s = .next { s with inputs := rest, errIll := true })

/-- R82: where each operand stands in the word. -/
def Obligations.OperandsComeFromTheirFields : Prop :=
  ∀ w : Word,
    (∀ b, decode w = .ok (.writeBit b) → b = w.getLsbD 8) ∧
    (∀ v, decode w = .ok (.writeByte v) → v.toNat = w.toNat / 2 ^ 8 % 2 ^ 8) ∧
    (∀ n, decode w = .ok (.delay n) → n.toNat = w.toNat / 2 ^ 16)

/-- R90: the worked encodings and the illegal words it lists. -/
def Obligations.WorkedEncodingsDecode : Prop :=
  (encode .resetPulse = .cmd 0x00000002 ∧ decode 0x00000002 = .ok .resetPulse) ∧
  (encode (.writeBit true) = .cmd 0x00000103 ∧ decode 0x00000103 = .ok (.writeBit true)) ∧
  (encode (.writeBit false) = .cmd 0x00000003 ∧ decode 0x00000003 = .ok (.writeBit false)) ∧
  (encode (.writeByte 0xCC) = .cmd 0x0000CC05 ∧ decode 0x0000CC05 = .ok (.writeByte 0xCC)) ∧
  (encode (.delay 7500) = .cmd 0x1D4C0007 ∧ decode 0x1D4C0007 = .ok (.delay 7500)) ∧
  (encode (.delay 65535) = .cmd 0xFFFF0007 ∧ decode 0xFFFF0007 = .ok (.delay 65535)) ∧
  (encode .readTemperature = .cmd 0x00000008 ∧ decode 0x00000008 = .ok .readTemperature) ∧
  (∀ w ∈ [(0x00000000 : Word), 0x00000203, 0x00010002, 0x00000012, 0x0000000A], instrOf (decode w) = none)

/-- R87's table: the three wire bytes, their bits in wire order, and no other byte. -/
def Obligations.WireBytesDecodeInWireOrder : Prop :=
  (∀ (b : Byte) (i : Instr), decodeWire b = .ok i ↔
    (b = 0xCC ∧ i = .skipRomByte) ∨ (b = 0x44 ∧ i = .convertTByte) ∨ (b = 0xBE ∧ i = .readScratchpadByte)) ∧
  ((List.range 8).map fun j => (0xCC : Byte).getLsbD j) = [false, false, true, true, false, false, true, true] ∧
  ((List.range 8).map fun j => (0x44 : Byte).getLsbD j) = [false, false, true, false, false, false, true, false] ∧
  ((List.range 8).map fun j => (0xBE : Byte).getLsbD j) = [false, true, true, true, true, true, false, true]

/-! ### The accept step and the error bits (60_exceptions.md) -/

/-- R200, R86: the three cases of a host write to CMD, in order. -/
def Obligations.AcceptStepThreeCases : Prop :=
  (Seq.code .reset1 = 0x2 ∧ Seq.code .prim = 0x1) ∧
  ∀ (s : State) (rest : List Event) (w : Word), s.inputs = .hostWrite Config.base 4 w :: rest → s.rst = false →
    (s.busy = true → step s = .next { s with inputs := rest, errOvr := true }) ∧
    (s.busy = false → (∀ i, decode w ≠ .ok i) → step s = .next { s with inputs := rest, errIll := true }) ∧
    (∀ i, s.busy = false → decode w = .ok i →
      step s = .next { s with
        inputs := rest, busy := true, pend := true, pcmd := w
        seq := if i = .readTemperature then .reset1 else .prim })

/-- R207: only a CMD write raises an error, it raises at most one, and ERR_OVR wins. -/
def Obligations.ErrorsRaisedOnlyByCmdWrites : Prop :=
  ∀ s s' : State, step s = .next s' →
    ¬ ((s.errIll = false ∧ s'.errIll = true) ∧ (s.errOvr = false ∧ s'.errOvr = true)) ∧
    ((s.errIll = false ∧ s'.errIll = true) ∨ (s.errOvr = false ∧ s'.errOvr = true) →
      ∃ w rest, s.inputs = .hostWrite Config.base 4 w :: rest ∧
        ((s.errIll = false ∧ s'.errIll = true) → s.busy = false ∧ ∀ i, decode w ≠ .ok i) ∧
        ((s.errOvr = false ∧ s'.errOvr = true) → s.busy = true)) ∧
    (∀ w rest, s.inputs = .hostWrite Config.base 4 w :: rest → s.rst = false → s.busy = true →
      s'.errOvr = true ∧ s'.errIll = s.errIll)

/-- The error bits are sticky: only a 1 written to the bit in STATUS, INIT on its start tick, or reset clears one. -/
def Obligations.ErrorBitsStickUntilCleared : Prop :=
  ∀ s s' : State, ErrorInv s → step s = .next s' →
    (s.errIll = true → s'.errIll = false →
      (∃ v rest, s.inputs = .hostWrite (Config.base + 4) 4 v :: rest ∧ v.getLsbD 8 = true) ∨
      (∃ l rest, s.inputs = .tick l :: rest ∧ s.pend = true ∧ decode s.pcmd = .ok .init) ∨
      (∃ rest, s.inputs = .rst true :: rest) ∨ s.rst = true) ∧
    (s.errOvr = true → s'.errOvr = false →
      (∃ v rest, s.inputs = .hostWrite (Config.base + 4) 4 v :: rest ∧ v.getLsbD 9 = true) ∨
      (∃ l rest, s.inputs = .tick l :: rest ∧ s.pend = true ∧ decode s.pcmd = .ok .init) ∨
      (∃ rest, s.inputs = .rst true :: rest) ∨ s.rst = true)

/-- No WAIT ever has INIT's clearing ahead of it: every step keeps this. -/
def Obligations.ErrorInvKeptByEveryStep : Prop :=
  ∀ s s' : State, ErrorInv s → step s = .next s' → ErrorInv s'

/-! ### The register window (20_memory.md, 10_state.md) -/

/-- R62: what a defined read returns, register by register, and that it changes nothing but the host port. -/
def Obligations.HostReadReturnsTheRegister : Prop :=
  ∀ (s : State) (rest : List Event) (a : Nat), a < 0x40 → a % 4 = 0 →
    s.inputs = .hostRead (Config.base + a) 4 :: rest → s.rst = false →
    step s = .next { s with inputs := rest, rdata := BitVec.ofNat 32 (windowValue s a) }

/-- STATUS as R27 lays it out, and as R34 packs SP: the values read never need more than 32 bits, so the read is exact. -/
def Obligations.WindowValuesAreExact : Prop :=
  ∀ (s : State) (a : Nat), windowValue s a < 2 ^ 32 ∧
    (a < 0x40 → a % 4 = 0 → (readReg (regAt a) s).toNat = windowValue s a)

/-- R63: the three effects of a defined write. -/
def Obligations.HostWriteActsAtCmdAndStatusOnly : Prop :=
  ∀ (s : State) (rest : List Event) (a : Nat) (v : Word), a < 0x40 → a % 4 = 0 →
    s.inputs = .hostWrite (Config.base + a) 4 v :: rest → s.rst = false →
    (a = 0x00 → step s = .next (acceptStep v { s with inputs := rest })) ∧
    (a = 0x04 → step s = .next { s with
      inputs := rest
      errIll := if v.getLsbD 8 then false else s.errIll
      errOvr := if v.getLsbD 9 then false else s.errOvr }) ∧
    (a ≠ 0x00 → a ≠ 0x04 → step s = .next { s with inputs := rest })

/-- R64: every other access is refused, whichever way it fails, and no defined one is. -/
def Obligations.UndefinedAccessesAreRefused : Prop :=
  ∀ (s : State) (rest : List Event) (addr size : Nat) (v : Word),
    (size = 4 ∧ Config.base ≤ addr ∧ addr < Config.base + 0x40 ∧ (addr - Config.base) % 4 = 0 →
      (s.inputs = .hostRead addr size :: rest → ∃ t, step s = .next t) ∧
      (s.inputs = .hostWrite addr size v :: rest → ∃ t, step s = .next t)) ∧
    (¬ (size = 4 ∧ Config.base ≤ addr ∧ addr < Config.base + 0x40 ∧ (addr - Config.base) % 4 = 0) →
      (s.inputs = .hostRead addr size :: rest → ∃ r, step s = .refused r) ∧
      (s.inputs = .hostWrite addr size v :: rest → ∃ r, step s = .refused r))

/-! ### The time base (40_timebase.md) -/

/-- The duration law of a WAIT under any parameters: while it holds only TB, GT and the input level move, and its successor runs
in the tick step `n + WAIT_EXTRA` after its start; at 0 it runs at once. That WTGT is kept once the WAIT has completed is the model's
choice (log 9). -/
def Obligations.WaitTakesItsCount : Prop :=
  ∀ (p : Params) (lv : Nat → Bool) (n : Half) (k : Prog) (s : State) (w : Nat),
    w = n.toNat + p.waitExtra → w < 2 ^ 16 →
    (∀ j, j < w → coast p lv j (run p (.wait (.ticks n) k) s) =
      { s with tb := BitVec.ofNat 16 j, wtgt := w, mp := .waiting k, gt := s.gt + j
               owIn := if j = 0 then s.owIn else lv (s.gt + j) }) ∧
    coast p lv w (run p (.wait (.ticks n) k) s) =
      run p k { s with tb := BitVec.ofNat 16 w, wtgt := w, gt := s.gt + w
                       owIn := if w = 0 then s.owIn else lv (s.gt + w) }

/-- With WAIT_EXTRA = 1 a WAIT of 65535 never completes: the wrap of TB hides its target. -/
def Obligations.LongestWaitHangsWithExtraOne : Prop :=
  ∀ (p : Params) (lv : Nat → Bool) (k : Prog) (s : State), p.waitExtra = 1 →
    ∀ j, (coast p lv j (run p (.wait (.ticks 65535) k) s)).mp = .waiting k ∧
      (coast p lv j (run p (.wait (.ticks 65535) k) s)).busy = s.busy

/-- TB is free-running: a tick leaves it 0 where a WAIT starts in that step, and adds one modulo 2^16 in every other; no host access and
no step without input writes it. -/
def Obligations.TimeBaseCountsEveryTick : Prop :=
  ∀ s s' : State, s.rst = false → step s = .next s' →
    (∀ l rest, s.inputs = .tick l :: rest →
      s'.gt = s.gt + 1 ∧ s'.tb = if tickStartsWait l { s with inputs := rest } then 0 else s.tb + 1) ∧
    ((∀ l rest, s.inputs ≠ .tick l :: rest) → (∀ l rest, s.inputs ≠ .rst l :: rest) → s'.tb = s.tb ∧ s'.gt = s.gt)

/-- An idle tick changes only TB, GT and the level of the input. -/
def Obligations.IdleTickOnlyCounts : Prop :=
  ∀ (s : State) (l : Bool) (rest : List Event), s.inputs = .tick l :: rest → s.rst = false → s.pend = false → s.mp = .empty →
    step s = .next { s with inputs := rest, tb := s.tb + 1, gt := s.gt + 1, owIn := l }

/-- `DELAY n`, n = 0 included: n ticks, no line event, DRIVE and every other register as before (WTGT after completion: log 9). -/
def Obligations.DelayTakesItsCount : Prop :=
  ∀ (n : Half) (s : State) (lv : Nat → Bool), s.rst = false →
    Completes (.delay n) s lv n.toNat
      { idleAt (s.gt + n.toNat) n.toNat lv s with
        drive := s.drive
        owIn := if n = 0 then s.owIn else lv (s.gt + n.toNat) }

/-! ### A step runs the decoded instruction (10_state.md R44) -/

/-- On a tick with PEND = 1, step is exec of what PCMD decodes to, at the state in which the tick has been counted. -/
def Obligations.StepRunsThePendingCommand : Prop :=
  ∀ (s : State) (l : Bool) (rest : List Event) (i : Instr), s.inputs = .tick l :: rest → s.rst = false → s.pend = true →
    decode s.pcmd = .ok i →
    step s = exec i { s with inputs := rest, tb := s.tb + 1, gt := s.gt + 1, owIn := l }

/-- On a tick that brings the sequencer to a wire command byte, step is exec of that byte in the same step. -/
def Obligations.StepSendsTheFetchedByte : Prop :=
  ∀ (s r : State) (l : Bool) (rest : List Event) (b : Byte) (k : Prog) (i : Instr),
    s.inputs = .tick l :: rest → s.rst = false → s.pend = false →
    r = resume Config.params { s with inputs := rest, tb := s.tb + 1, gt := s.gt + 1, owIn := l } →
    (r.mp = .atWire b k → decodeWire b = .ok i → step s = exec i r) ∧
    ((∀ b k, r.mp ≠ .atWire b k) → step s = .next r)

/-- A word placed where the step fetches runs as that instruction (the model's own placing, logs 3 and 13). -/
def Obligations.PlacedWordIsRun : Prop :=
  (∀ (w : Word) (i : Instr), decode w = .ok i →
    step (State.reset.withFetchWord 32 w.toNat) =
      exec i { State.reset with busy := true, pend := true, pcmd := w, seq := initialSeq i, tb := 1, gt := 1 }) ∧
  (∀ (b : Byte) (i : Instr), decodeWire b = .ok i →
    step (State.reset.withFetchWord 8 b.toNat) =
      exec i { State.reset with
        busy := true, pcmd := 0x00000008, seq := initialSeq i, mp := .atWire b .done, tb := 1, gt := 1 })

/-! ### The link layer (41_link_layer.md) -/

/-- INIT completes on its start tick: the line released, both error bits clear, nothing else but the completion. -/
def Obligations.InitReleasesAndClearsErrors : Prop :=
  ∀ s : State, exec .init s = .next { s with
    drive := false, trace := s.trace ++ [.rel s.gt], errIll := false, errOvr := false
    busy := false, seq := .idle, pend := false, pcmd := 0, mp := .empty }

/-- RESET_PULSE: 960 ticks, its four line events, PRES from the two samples, every other field as before. What S1, S2
and WTGT read after completion is the model's choice (logs 9, 10). -/
def Obligations.ResetPulseRunsWhole : Prop :=
  ∀ (s : State) (lv : Nat → Bool), s.rst = false →
    Completes .resetPulse s lv 960
      { idleAt (s.gt + 960) 410 lv s with
        pres := presenceAt lv s.gt, s1 := lv (s.gt + 550), s2 := lv (s.gt + 960)
        trace := s.trace ++ resetTrace lv s.gt }

/-- R111: `ResetPresence` ends where its two samples put it, whatever the line does at any other time, with the truth table's result. -/
def Obligations.PresenceNeedsLowThenHigh : Prop :=
  ∀ (s : State) (lv : Nat → Bool), ∃ t : State,
    (∀ (lv' : Nat → Bool) (k : Prog), lv' (s.gt + 550) = lv (s.gt + 550) → lv' (s.gt + 960) = lv (s.gt + 960) →
      coast Config.params lv' 960 (run Config.params (resetPresence Config.params k) s) = run Config.params k t) ∧
    (lv (s.gt + 550) = false → lv (s.gt + 960) = true → presence t = true) ∧
    (lv (s.gt + 550) = false → lv (s.gt + 960) = false → presence t = false) ∧
    (lv (s.gt + 550) = true → lv (s.gt + 960) = true → presence t = false) ∧
    (lv (s.gt + 550) = true → lv (s.gt + 960) = false → presence t = false)

/-- WRITE_BIT, both values: 75 ticks, its two line events, every other field as before (WTGT after completion: log 9). -/
def Obligations.WriteBitRunsWhole : Prop :=
  ∀ (b : Bool) (s : State) (lv : Nat → Bool), s.rst = false →
    Completes (.writeBit b) s lv 75
      { idleAt (s.gt + 75) (if b then 65 else 10) lv s with trace := s.trace ++ writeBitTrace b s.gt }

/-- R115: in every write slot, of WRITE_BIT or inside a byte, the line is pulled low for L ticks and released for the rest of 75.
That WTGT keeps its last value is the model's choice (log 9). -/
def Obligations.WriteSlotWaveform : Prop :=
  ∀ (src : BitSource) (k : Prog) (s : State) (lv : Nat → Bool) (j L : Nat), L = (if src.value s then 10 else 65) →
    (j < 75 → (coast Config.params lv j (run Config.params (writeBit Config.params src k) s)).drive = decide (j < L)) ∧
    coast Config.params lv 75 (run Config.params (writeBit Config.params src k) s) =
      run Config.params k { s with
        drive := false, trace := s.trace ++ [.low s.gt, .rel (s.gt + L)], tb := BitVec.ofNat 16 (75 - L), wtgt := 75 - L
        gt := s.gt + 75, owIn := lv (s.gt + 75) }

/-- READ_BIT: 65 ticks, its three line events, DATA the sample at s + 10, every other field as before (RB and WTGT after
completion: logs 9, 10). -/
def Obligations.ReadBitRunsWhole : Prop :=
  ∀ (s : State) (lv : Nat → Bool), s.rst = false →
    Completes .readBit s lv 65
      { idleAt (s.gt + 65) 55 lv s with
        data := if lv (s.gt + 10) then 1 else 0, rb := lv (s.gt + 10), trace := s.trace ++ readBitTrace lv s.gt }

/-! ### The byte layer (42_byte_layer.md) -/

/-- WRITE_BYTE: 600 ticks, eight write slots of the value's bits from bit 0 on, SHIFT empty at the end, DATA and PRES as before
(BITCNT and WTGT after completion: logs 9, 10). -/
def Obligations.WriteByteRunsWhole : Prop :=
  ∀ (v : Byte) (s : State) (lv : Nat → Bool), s.rst = false →
    Completes (.writeByte v) s lv 600
      { idleAt (s.gt + 600) (if v.getLsbD 7 then 65 else 10) lv s with
        shift := 0, bitcnt := 8, trace := s.trace ++ writeByteTrace v s.gt }

/-- READ_BYTE: 520 ticks, eight read slots, DATA the byte of their samples (SHIFT, BITCNT, RB and WTGT after completion: logs 9, 10). -/
def Obligations.ReadByteRunsWhole : Prop :=
  ∀ (s : State) (lv : Nat → Bool), s.rst = false →
    Completes .readByte s lv 520
      { idleAt (s.gt + 520) 55 lv s with
        data := byteAt lv s.gt, shift := byteAt lv s.gt, bitcnt := 8, rb := lv (s.gt + 465)
        trace := s.trace ++ readByteTrace lv s.gt }

/-- R142: a line that replays the slots of WriteByte(v) makes ReadByte return v, inside any micro-program and as READ_BYTE. -/
def Obligations.ReadByteInvertsWriteByte : Prop :=
  ∀ (v : Byte) (s : State) (lv : Nat → Bool), (∀ i, i < 8 → lv (s.gt + 65 * i + 10) = v.getLsbD i) →
    (∃ t : State, t.shift = v ∧
      ∀ k, coast Config.params lv 520 (run Config.params (readByte Config.params k) s) = run Config.params k t) ∧
    (s.rst = false → ∃ u, Completes .readByte s lv 520 u ∧ u.data = v)

/-- The three wire command bytes: each is sent in 600 ticks like any byte, and the sequencer goes on with what is left of its
micro-program. What is left where none is running, WTGT after the last WAIT, and SHIFT and BITCNT where the command then completes are
the model's choices (logs 12, 9, 10). -/
def Obligations.WireByteIsSentThenTheRestRuns : Prop :=
  ∀ (i : Instr) (b : Byte) (s : State) (lv : Nat → Bool),
    (i = .skipRomByte ∧ b = 0xCC) ∨ (i = .convertTByte ∧ b = 0x44) ∨ (i = .readScratchpadByte ∧ b = 0xBE) →
    s.rst = false → s.pend = false →
    ∃ t, exec i s = .next t ∧
      t.trace = s.trace ++ [.low s.gt] ∧
      ticks lv 600 t = sendFetchedByte (run Config.params s.mp.rest { s with
        drive := false, shift := 0, bitcnt := 8, trace := s.trace ++ writeByteTrace b s.gt
        tb := if b.getLsbD 7 then 65 else 10, wtgt := if b.getLsbD 7 then 65 else 10
        gt := s.gt + 600, owIn := lv (s.gt + 600) })

/-! ### The transaction layer (43_transaction.md) -/

/-- READ_TEMPERATURE from its start tick to its completion, whatever the line does: every field of the end state (the working
registers after completion, BYTECNT = 9 among them: logs 9, 10). -/
def Obligations.ReadTemperatureRunsWhole : Prop :=
  ∀ (s : State) (lv : Nat → Bool), s.rst = false →
    Completes .readTemperature s lv (readTemperatureTicks lv s.gt) (readTemperatureEnd lv s)

/-- R160: the four durations, and the line activity of each. -/
def Obligations.ReadTemperatureDurations : Prop :=
  ∀ (s : State) (lv : Nat → Bool) (n : Nat), s.rst = false →
    n = (if presenceAt lv s.gt then (if secondPresence lv s.gt then 759960 else 754080)
         else (if secondPresence lv s.gt then 758760 else 752880)) →
    (s.busy = true → TakesTicks .readTemperature s lv n) ∧
    ∃ u, Completes .readTemperature s lv n u ∧ u.pres1 = presenceAt lv s.gt ∧ u.pres2 = secondPresence lv s.gt ∧
      u.trace = s.trace ++ readTemperatureTrace lv s.gt

/-- SEQ at every tick of a READ_TEMPERATURE, skipped blocks included. -/
def Obligations.ReadTemperatureSequencerStates : Prop :=
  ∀ (s : State) (lv : Nat → Bool) (j : Nat), s.rst = false → j ≤ readTemperatureTicks lv s.gt →
    ∃ u, Completes .readTemperature s lv j u ∧ u.seq = seqAfter lv s.gt j

/-- R162: with PRES2 = 0 at completion the scratchpad and the decoded fields are the old ones. -/
def Obligations.StaleDataWhenSecondPresenceFails : Prop :=
  ∀ (s : State) (lv : Nat → Bool), s.rst = false →
    ∃ u, Completes .readTemperature s lv (readTemperatureTicks lv s.gt) u ∧ u.busy = false ∧
      (u.pres2 = false →
        u.sp = s.sp ∧ u.tempInt = s.tempInt ∧ u.tempFrac = s.tempFrac ∧ u.tempRaw = s.tempRaw ∧ u.minus = s.minus)

/-- The ticks from start tick to completion of the other eight commands. -/
def Obligations.CommandsTakeTheirTicks : Prop :=
  ∀ (s : State) (lv : Nat → Bool), s.rst = false →
    TakesTicks .init s lv 0 ∧ TakesTicks .decode s lv 0 ∧
    (s.busy = true →
      TakesTicks .resetPulse s lv 960 ∧ (∀ b, TakesTicks (.writeBit b) s lv 75) ∧ TakesTicks .readBit s lv 65 ∧
      (∀ v, TakesTicks (.writeByte v) s lv 600) ∧ TakesTicks .readByte s lv 520 ∧
      ∀ n, TakesTicks (.delay n) s lv n.toNat)

/-! ### The decoder (44_decoder.md) -/

/-- R180: DECODE's effect, every field, the arithmetic on numbers. -/
def Obligations.DecodeComputesTheReading : Prop :=
  ∀ (s : State) (lsb msb m ip : Nat), lsb = s.sp[0].toNat → msb = s.sp[1].toNat →
    m = (if 128 ≤ msb then 255 - msb else msb) → ip = m % 8 * 16 + lsb / 16 →
    exec .decode s = .next { s with
      tempRaw := BitVec.ofNat 16 (256 * msb + lsb)
      tempInt := BitVec.ofNat 8 (if 128 ≤ msb then 256 - ip else ip)
      tempFrac := BitVec.ofNat 10 (lsb % 16 * 625 / 1000)
      minus := decide (128 ≤ msb)
      busy := false, seq := .idle, pend := false, pcmd := 0, mp := .empty }

/-- R184: the negation never overflows, and a zero integer field loses its sign to MINUS. -/
def Obligations.IntegerPartNeverOverflows : Prop :=
  ∀ s : State, ∃ t, exec .decode s = .next t ∧ -127 ≤ t.tempInt.toInt ∧ t.tempInt.toInt ≤ 127 ∧
    (t.minus = true → integerField s.sp[0] s.sp[1] = 0 → t.tempInt = 0 ∧ t.minus = true) ∧
    (t.minus = true → t.tempInt.toInt = - (integerField s.sp[0] s.sp[1]).toNat) ∧
    (t.minus = false → t.tempInt.toInt = (integerField s.sp[0] s.sp[1]).toNat)

/-- The fraction is the truncated tenths digit, in 0..9, the same for both signs; MSB bits 6:3 reach only TEMP_RAW; a non-negative
reading up to 0x07FF is decoded as raw / 16 and tenths. -/
def Obligations.DecoderArithmeticLaws : Prop :=
  ∀ s t : State, exec .decode s = .next t →
    t.tempFrac.toNat = 10 * (s.sp[0].toNat % 16) / 16 ∧ t.tempFrac.toNat ≤ 9 ∧
    (s.sp[1].toNat < 8 →
      t.tempInt.toNat = t.tempRaw.toNat / 16 ∧ t.tempFrac.toNat = t.tempRaw.toNat % 16 * 10 / 16 ∧ t.minus = false) ∧
    (∀ s' t' : State, exec .decode s' = .next t' → s'.sp[0] = s.sp[0] →
      s'.sp[1].toNat % 8 = s.sp[1].toNat % 8 → s'.sp[1].toNat / 128 = s.sp[1].toNat / 128 →
      t'.tempInt = t.tempInt ∧ t'.tempFrac = t.tempFrac ∧ t'.minus = t.minus)

/-! ### Invariants -/

/-- Every invariant of Safety.lean holds at reset. -/
def Obligations.InvariantsHoldAtReset : Prop :=
  ControlInv State.reset ∧ WaveformInv State.reset ∧ TimedInv State.reset ∧ DecodeInv State.reset ∧ CounterInv State.reset ∧
    ErrorInv State.reset

/-- Every step keeps the control state legal. -/
def Obligations.ControlInvKeptByEveryStep : Prop :=
  ∀ s s' : State, ControlInv s → step s = .next s' → ControlInv s'

/-- R46: the four claims hold in every state a step leaves. -/
def Obligations.BusySeqPendDriveAgree : Prop :=
  ∀ s s' : State, ControlInv s → step s = .next s' →
    (s'.busy = false → s'.pend = false ∧ s'.seq = .idle ∧ ∀ k, s'.mp ≠ .waiting k) ∧
    (s'.pend = true → s'.busy = true) ∧
    (s'.seq = .idle → s'.busy = false) ∧
    (s'.drive = true → s'.busy = true)

/-- From a legal control state no step faults, and only an undefined host access is refused. -/
def Obligations.NoStepFaultsFromLegalStates : Prop :=
  ∀ s : State, ControlInv s →
    (∃ s', step s = .next s') ∨
    ((step s = .refused .accessWidth ∨ step s = .refused .accessMisaligned ∨ step s = .refused .accessOutsideWindow) ∧
      ∃ addr size rest, (s.inputs = .hostRead addr size :: rest ∨ ∃ v, s.inputs = .hostWrite addr size v :: rest))

/-- The recorded waveform always agrees with DRIVE, and no sample is taken while the line is pulled low. -/
def Obligations.WaveformAgreesWithDrive : Prop :=
  ∀ s s' : State, ControlInv s → WaveformInv s → step s = .next s' → WaveformInv s'

/-- The trace stays in time order, none of it ahead of GT. -/
def Obligations.TraceStaysInTimeOrder : Prop :=
  ∀ s s' : State, TimedInv s → step s = .next s' → TimedInv s'

/-- The decoded fields equal Decode(SP), or the running command will still decode: every step keeps this. -/
def Obligations.DecodeInvKeptByEveryStep : Prop :=
  ∀ s s' : State, ControlInv s → DecodeInv s → step s = .next s' → DecodeInv s'

/-- Whenever BUSY = 0, the decoded fields equal Decode(SP), and a DECODE started then changes none of them. -/
def Obligations.IdleStateIsDecoded : Prop :=
  ∀ s s' : State, ControlInv s → DecodeInv s → step s = .next s' → s'.busy = false →
    s'.tempRaw = tempRawOf s'.sp[0] s'.sp[1] ∧ s'.tempInt = tempIntOf s'.sp[0] s'.sp[1] ∧
    s'.tempFrac = tempFracOf Config.params s'.sp[0] ∧ s'.minus = minusOf s'.sp[1] ∧
    ∃ t, exec .decode s' = .next t ∧ t.tempRaw = s'.tempRaw ∧ t.tempInt = s'.tempInt ∧ t.tempFrac = s'.tempFrac ∧
      t.minus = s'.minus

/-- BITCNT, BYTECNT and LOOPCNT stay in their ranges. -/
def Obligations.CountersStayInRange : Prop :=
  ∀ s s' : State, CounterInv s → step s = .next s' → CounterInv s'

/-! ### Whole-machine rules -/

/-- While a command runs, a host access moves nothing of it: at most an error bit and the host port change. -/
def Obligations.HostAccessLeavesTheCommandAlone : Prop :=
  ∀ (s s' : State) (e : Event) (rest : List Event), s.inputs = e :: rest →
    (∃ addr size, e = .hostRead addr size) ∨ (∃ addr size v, e = .hostWrite addr size v) →
    s.rst = false → s.busy = true → step s = .next s' →
    SameButErrors { s with inputs := rest } s'

/-- No step of the controller reads the error bits: two runs that differ only in them go on differing only in them. -/
def Obligations.TicksDoNotReadTheErrorBits : Prop :=
  ∀ (s t : State) (lv : Nat → Bool) (n : Nat), SameButErrors s t →
    match ticks lv n s, ticks lv n t with
    | .next s', .next t' => SameButErrors s' t'
    | .fault f, .fault g => f = g
    | .refused f, .refused g => f = g
    | _, _ => False

/-- BUSY becomes 1 only at the accept step of a legal word, never under reset (log 8). -/
def Obligations.OnlyAnAcceptedWordSetsBusy : Prop :=
  ∀ s s' : State, step s = .next s' → s.busy = false → s'.busy = true →
    ∃ w rest i, s.inputs = .hostWrite Config.base 4 w :: rest ∧ s.rst = false ∧ decode w = .ok i

/-- READ_TEMPERATURE writes neither DATA nor PRES, at any tick of its run. -/
def Obligations.ReadTemperatureLeavesDataAndPres : Prop :=
  ∀ (s : State) (lv : Nat → Bool) (j : Nat), s.rst = false → j ≤ readTemperatureTicks lv s.gt →
    ∃ u, Completes .readTemperature s lv j u ∧ u.data = s.data ∧ u.pres = s.pres

/-! ### Reset (10_state.md R48, 70_reset_and_hazards.md R230) -/

/-- R48: the reset values, and that the decoded fields equal the decode of SP at reset. -/
def Obligations.ResetValues : Prop :=
  let s := State.reset
  statusValue s = 0 ∧ s.busy = false ∧ s.drive = false ∧ s.pres = false ∧ s.pres1 = false ∧ s.pres2 = false ∧
  s.pres3 = false ∧ s.minus = false ∧ s.errIll = false ∧ s.errOvr = false ∧ s.seq = .idle ∧ s.data = 0 ∧ s.tempInt = 0 ∧
  s.tempFrac = 0 ∧ s.tempRaw = 0 ∧ (∀ k : Fin 9, s.sp[k] = 0) ∧ s.tb = 0 ∧ s.pend = false ∧ s.pcmd = 0 ∧ s.wtgt = 0 ∧
  s.shift = 0 ∧ s.bitcnt = 0 ∧ s.bytecnt = 0 ∧ s.loopcnt = 0 ∧ s.s1 = false ∧ s.s2 = false ∧ s.rb = false ∧
  s.mp = .empty ∧ s.gt = 0 ∧ s.trace = [] ∧ Fresh s

/-- R230: `rst` puts the reset state in place whatever ran; while it is held, ticks keep it and reads see it. -/
def Obligations.ResetHoldsTheResetState : Prop :=
  (∀ (s : State) (rest : List Event), s.inputs = .rst true :: rest →
    step s = .next { State.reset with rst := true, owIn := s.owIn, rdata := s.rdata, inputs := rest }) ∧
  (∀ (s : State) (rest : List Event) (l : Bool), s.rst = true → s.inputs = .tick l :: rest →
    step s = .next { State.reset with rst := true, owIn := s.owIn, rdata := s.rdata, inputs := rest }) ∧
  (∀ (s : State) (rest : List Event) (a : Nat), s.rst = true → a < 0x40 → a % 4 = 0 →
    s.inputs = .hostRead (Config.base + a) 4 :: rest →
    step s = .next { State.reset with
      rst := true, owIn := s.owIn, inputs := rest, rdata := BitVec.ofNat 32 (windowValue State.reset a) })

/-- While `rst` is 1 a defined host write changes nothing: the model's reading of R230 (log 8). -/
def Obligations.WriteUnderResetChangesNothing : Prop :=
  ∀ (s : State) (rest : List Event) (a : Nat) (v : Word), s.rst = true → a < 0x40 → a % 4 = 0 →
    s.inputs = .hostWrite (Config.base + a) 4 v :: rest →
    step s = .next { State.reset with rst := true, owIn := s.owIn, rdata := s.rdata, inputs := rest }

/-- When `rst` returns to 0 the controller is idle and the next legal CMD write is accepted. -/
def Obligations.ReleasedResetAcceptsACommand : Prop :=
  ∀ (s : State) (w : Word) (i : Instr) (rest : List Event), s.rst = true → decode w = .ok i →
    s.inputs = .rst false :: .hostWrite Config.base 4 w :: rest →
    ∃ t u, step s = .next t ∧ t.busy = false ∧ t.seq = .idle ∧ step t = .next u ∧
      u.busy = true ∧ u.pend = true ∧ u.pcmd = w ∧ u.errIll = false ∧ u.errOvr = false

/-! ### READ_TEMPERATURE, tick by tick (20_memory.md section 6) -/

/-- Every register a host can see a READ_TEMPERATURE write, at every tick of it (R73): PRES1 to PRES3 read 0 until their reset pulse
completes, SP[k] is new from the step in which byte k completes, and the decoded fields are the old ones until the decode step. -/
def Obligations.ReadTemperatureRegistersAtEveryTick : Prop :=
  ∀ (s : State) (lv : Nat → Bool) (j : Nat), s.rst = false → j ≤ readTemperatureTicks lv s.gt →
    ∃ u, Completes .readTemperature s lv j u ∧
      u.pres1 = presAfter lv s.gt s.gt j ∧
      u.pres2 = presAfter lv s.gt (reset2Start lv s.gt) j ∧
      u.pres3 = presAfter lv s.gt (reset3Start lv s.gt) j ∧
      u.sp = spAfter lv s.gt j s.sp ∧
      (decodedAfter lv s.gt j = true →
        u.tempRaw = tempRawOf u.sp[0] u.sp[1] ∧ u.tempInt = tempIntOf u.sp[0] u.sp[1] ∧
        u.tempFrac = tempFracOf Config.params u.sp[0] ∧ u.minus = minusOf u.sp[1]) ∧
      (decodedAfter lv s.gt j = false →
        u.tempRaw = s.tempRaw ∧ u.tempInt = s.tempInt ∧ u.tempFrac = s.tempFrac ∧ u.minus = s.minus)
end

