-- ==== Sys2Proof/Laws/Decode.lean ====
section
/-! SUPPORT. What the decoder and the encoder do, said once. -/

namespace Sys2Proof

theorem opOf_toNat (w : Word) : (opOf w).toNat = w.toNat % 16 := by
  simp [opOf, BitVec.extractLsb'_toNat]

theorem rsvOf_toNat (w : Word) : (rsvOf w).toNat = w.toNat / 16 % 16 := by
  simp [rsvOf, BitVec.extractLsb'_toNat, Nat.shiftRight_eq_div_pow]

theorem arg8Of_toNat (w : Word) : (arg8Of w).toNat = w.toNat / 256 % 256 := by
  simp [arg8Of, BitVec.extractLsb'_toNat, Nat.shiftRight_eq_div_pow]

theorem arg16Of_toNat (w : Word) : (arg16Of w).toNat = w.toNat / 65536 := by
  have := w.isLt
  simp [arg16Of, BitVec.extractLsb'_toNat, Nat.shiftRight_eq_div_pow]
  omega

/-- A word is its four fields (R80). -/
theorem toNat_eq_fields (w : Word) :
    w.toNat = (opOf w).toNat + 16 * (rsvOf w).toNat + 256 * (arg8Of w).toNat + 65536 * (arg16Of w).toNat := by
  rw [opOf_toNat, rsvOf_toNat, arg8Of_toNat, arg16Of_toNat]
  omega

/-- The four fields of a word given as a sum of its fields. -/
theorem fields_of_toNat {w : Word} {op : Nat} {a8 : Byte} {a16 : Half}
    (h : w.toNat = op + 256 * a8.toNat + 65536 * a16.toNat) (hop : op < 16) :
    (opOf w).toNat = op ∧ rsvOf w = 0 ∧ arg8Of w = a8 ∧ arg16Of w = a16 := by
  have h8 := a8.isLt
  have h16 := a16.isLt
  refine ⟨?_, ?_, ?_, ?_⟩
  · rw [opOf_toNat]; omega
  · apply BitVec.eq_of_toNat_eq; rw [rsvOf_toNat, h]; simp; omega
  · apply BitVec.eq_of_toNat_eq; rw [arg8Of_toNat, h]; omega
  · apply BitVec.eq_of_toNat_eq; rw [arg16Of_toNat, h]; omega

/-- A field check passes exactly where every bit the OP has no use for is 0. -/
theorem checkFields_ok {w : Word} {f8 : Byte} {f16 : Half} {i j : Instr} :
    checkFields w f8 f16 i = .ok j ↔
      rsvOf w = 0 ∧ arg8Of w &&& ~~~f8 = 0 ∧ arg16Of w &&& ~~~f16 = 0 ∧ i = j := by
  unfold checkFields
  split_ifs with h1 h2 h3 <;> simp_all

/-- What a legal word decodes to, and what its fields then are: one case per command (R83, R84). -/
theorem decode_cases {w : Word} {i : Instr} (h : decode w = .ok i) :
    rsvOf w = 0 ∧
    ((i = .init ∧ opOf w = 1 ∧ arg8Of w = 0 ∧ arg16Of w = 0) ∨
     (i = .resetPulse ∧ opOf w = 2 ∧ arg8Of w = 0 ∧ arg16Of w = 0) ∨
     (i = .writeBit ((arg8Of w).getLsbD 0) ∧ opOf w = 3 ∧ arg8Of w &&& 0xFE = 0 ∧ arg16Of w = 0) ∨
     (i = .readBit ∧ opOf w = 4 ∧ arg8Of w = 0 ∧ arg16Of w = 0) ∨
     (i = .writeByte (arg8Of w) ∧ opOf w = 5 ∧ arg16Of w = 0) ∨
     (i = .readByte ∧ opOf w = 6 ∧ arg8Of w = 0 ∧ arg16Of w = 0) ∨
     (i = .delay (arg16Of w) ∧ opOf w = 7 ∧ arg8Of w = 0) ∨
     (i = .readTemperature ∧ opOf w = 8 ∧ arg8Of w = 0 ∧ arg16Of w = 0) ∨
     (i = .decode ∧ opOf w = 9 ∧ arg8Of w = 0 ∧ arg16Of w = 0)) := by
  have hn (k : Nat) (hk : k < 16) (e : (opOf w).toNat = k) : opOf w = BitVec.ofNat 4 k := by
    apply BitVec.eq_of_toNat_eq; simp [e]; omega
  have a8 (x : Byte) : x &&& 255#8 = x := BitVec.and_allOnes
  have a16 (x : Half) : x &&& 65535#16 = x := BitVec.and_allOnes
  unfold decode at h
  split at h
  all_goals first
    | (rename_i e
       obtain ⟨h1, h2, h3, rfl⟩ := checkFields_ok.mp h
       have := hn _ (by decide) e
       simp_all)
    | cases h

/-- No command word decodes to a wire byte. -/
theorem decode_ne_wire {w : Word} {i : Instr} (h : decode w = .ok i) :
    i ≠ .skipRomByte ∧ i ≠ .convertTByte ∧ i ≠ .readScratchpadByte := by
  obtain ⟨-, h⟩ := decode_cases h
  rcases h with ⟨rfl, -⟩ | ⟨rfl, -⟩ | ⟨rfl, -⟩ | ⟨rfl, -⟩ | ⟨rfl, -⟩ | ⟨rfl, -⟩ | ⟨rfl, -⟩ | ⟨rfl, -⟩ | ⟨rfl, -⟩ <;> simp

/-- What a wire byte decodes to (R87). -/
theorem decodeWire_cases {b : Byte} {i : Instr} (h : decodeWire b = .ok i) :
    (b = 0xCC ∧ i = .skipRomByte) ∨ (b = 0x44 ∧ i = .convertTByte) ∨ (b = 0xBE ∧ i = .readScratchpadByte) := by
  unfold decodeWire at h
  split_ifs at h with h1 h2 h3 <;> simp_all [Config.cmdSkipRom, Config.cmdConvertT, Config.cmdReadScratchpad]

@[simp] theorem instrOf_ok (i : Instr) : instrOf (.ok i) = some i := rfl
@[simp] theorem instrOf_error (e : DecodeError) : instrOf (.error e) = none := rfl

/-- A word that decodes to nothing decodes to a named error. -/
theorem instrOf_isSome {r : Except DecodeError Instr} : (instrOf r).isSome = true ↔ ∃ i, r = .ok i := by
  cases r <;> simp

end Sys2Proof
end

