-- ==== Sys2Proof/Laws/State.lean ====
section
/-! SUPPORT. One lemma per field per update of the state: what the update leaves in the field. -/

namespace Sys2Proof.Machine

variable (s : State)

/-! `pullLow s` -/
@[simp] theorem pullLow_busy : (pullLow s).busy = s.busy := rfl
@[simp] theorem pullLow_drive : (pullLow s).drive = true := rfl
@[simp] theorem pullLow_pres : (pullLow s).pres = s.pres := rfl
@[simp] theorem pullLow_pres1 : (pullLow s).pres1 = s.pres1 := rfl
@[simp] theorem pullLow_pres2 : (pullLow s).pres2 = s.pres2 := rfl
@[simp] theorem pullLow_pres3 : (pullLow s).pres3 = s.pres3 := rfl
@[simp] theorem pullLow_minus : (pullLow s).minus = s.minus := rfl
@[simp] theorem pullLow_errIll : (pullLow s).errIll = s.errIll := rfl
@[simp] theorem pullLow_errOvr : (pullLow s).errOvr = s.errOvr := rfl
@[simp] theorem pullLow_seq : (pullLow s).seq = s.seq := rfl
@[simp] theorem pullLow_data : (pullLow s).data = s.data := rfl
@[simp] theorem pullLow_tempInt : (pullLow s).tempInt = s.tempInt := rfl
@[simp] theorem pullLow_tempFrac : (pullLow s).tempFrac = s.tempFrac := rfl
@[simp] theorem pullLow_tempRaw : (pullLow s).tempRaw = s.tempRaw := rfl
@[simp] theorem pullLow_sp : (pullLow s).sp = s.sp := rfl
@[simp] theorem pullLow_tb : (pullLow s).tb = s.tb := rfl
@[simp] theorem pullLow_pend : (pullLow s).pend = s.pend := rfl
@[simp] theorem pullLow_pcmd : (pullLow s).pcmd = s.pcmd := rfl
@[simp] theorem pullLow_mp : (pullLow s).mp = s.mp := rfl
@[simp] theorem pullLow_wtgt : (pullLow s).wtgt = s.wtgt := rfl
@[simp] theorem pullLow_shift : (pullLow s).shift = s.shift := rfl
@[simp] theorem pullLow_bitcnt : (pullLow s).bitcnt = s.bitcnt := rfl
@[simp] theorem pullLow_bytecnt : (pullLow s).bytecnt = s.bytecnt := rfl
@[simp] theorem pullLow_loopcnt : (pullLow s).loopcnt = s.loopcnt := rfl
@[simp] theorem pullLow_s1 : (pullLow s).s1 = s.s1 := rfl
@[simp] theorem pullLow_s2 : (pullLow s).s2 = s.s2 := rfl
@[simp] theorem pullLow_rb : (pullLow s).rb = s.rb := rfl
@[simp] theorem pullLow_gt : (pullLow s).gt = s.gt := rfl
@[simp] theorem pullLow_trace : (pullLow s).trace = s.trace ++ [.low s.gt] := rfl
@[simp] theorem pullLow_rst : (pullLow s).rst = s.rst := rfl
@[simp] theorem pullLow_owIn : (pullLow s).owIn = s.owIn := rfl
@[simp] theorem pullLow_rdata : (pullLow s).rdata = s.rdata := rfl
@[simp] theorem pullLow_inputs : (pullLow s).inputs = s.inputs := rfl

/-! `release s` -/
@[simp] theorem release_busy : (release s).busy = s.busy := rfl
@[simp] theorem release_drive : (release s).drive = false := rfl
@[simp] theorem release_pres : (release s).pres = s.pres := rfl
@[simp] theorem release_pres1 : (release s).pres1 = s.pres1 := rfl
@[simp] theorem release_pres2 : (release s).pres2 = s.pres2 := rfl
@[simp] theorem release_pres3 : (release s).pres3 = s.pres3 := rfl
@[simp] theorem release_minus : (release s).minus = s.minus := rfl
@[simp] theorem release_errIll : (release s).errIll = s.errIll := rfl
@[simp] theorem release_errOvr : (release s).errOvr = s.errOvr := rfl
@[simp] theorem release_seq : (release s).seq = s.seq := rfl
@[simp] theorem release_data : (release s).data = s.data := rfl
@[simp] theorem release_tempInt : (release s).tempInt = s.tempInt := rfl
@[simp] theorem release_tempFrac : (release s).tempFrac = s.tempFrac := rfl
@[simp] theorem release_tempRaw : (release s).tempRaw = s.tempRaw := rfl
@[simp] theorem release_sp : (release s).sp = s.sp := rfl
@[simp] theorem release_tb : (release s).tb = s.tb := rfl
@[simp] theorem release_pend : (release s).pend = s.pend := rfl
@[simp] theorem release_pcmd : (release s).pcmd = s.pcmd := rfl
@[simp] theorem release_mp : (release s).mp = s.mp := rfl
@[simp] theorem release_wtgt : (release s).wtgt = s.wtgt := rfl
@[simp] theorem release_shift : (release s).shift = s.shift := rfl
@[simp] theorem release_bitcnt : (release s).bitcnt = s.bitcnt := rfl
@[simp] theorem release_bytecnt : (release s).bytecnt = s.bytecnt := rfl
@[simp] theorem release_loopcnt : (release s).loopcnt = s.loopcnt := rfl
@[simp] theorem release_s1 : (release s).s1 = s.s1 := rfl
@[simp] theorem release_s2 : (release s).s2 = s.s2 := rfl
@[simp] theorem release_rb : (release s).rb = s.rb := rfl
@[simp] theorem release_gt : (release s).gt = s.gt := rfl
@[simp] theorem release_trace : (release s).trace = s.trace ++ [.rel s.gt] := rfl
@[simp] theorem release_rst : (release s).rst = s.rst := rfl
@[simp] theorem release_owIn : (release s).owIn = s.owIn := rfl
@[simp] theorem release_rdata : (release s).rdata = s.rdata := rfl
@[simp] theorem release_inputs : (release s).inputs = s.inputs := rfl

/-! `loadShift v s` -/
@[simp] theorem loadShift_busy (v : Byte) : (loadShift v s).busy = s.busy := rfl
@[simp] theorem loadShift_drive (v : Byte) : (loadShift v s).drive = s.drive := rfl
@[simp] theorem loadShift_pres (v : Byte) : (loadShift v s).pres = s.pres := rfl
@[simp] theorem loadShift_pres1 (v : Byte) : (loadShift v s).pres1 = s.pres1 := rfl
@[simp] theorem loadShift_pres2 (v : Byte) : (loadShift v s).pres2 = s.pres2 := rfl
@[simp] theorem loadShift_pres3 (v : Byte) : (loadShift v s).pres3 = s.pres3 := rfl
@[simp] theorem loadShift_minus (v : Byte) : (loadShift v s).minus = s.minus := rfl
@[simp] theorem loadShift_errIll (v : Byte) : (loadShift v s).errIll = s.errIll := rfl
@[simp] theorem loadShift_errOvr (v : Byte) : (loadShift v s).errOvr = s.errOvr := rfl
@[simp] theorem loadShift_seq (v : Byte) : (loadShift v s).seq = s.seq := rfl
@[simp] theorem loadShift_data (v : Byte) : (loadShift v s).data = s.data := rfl
@[simp] theorem loadShift_tempInt (v : Byte) : (loadShift v s).tempInt = s.tempInt := rfl
@[simp] theorem loadShift_tempFrac (v : Byte) : (loadShift v s).tempFrac = s.tempFrac := rfl
@[simp] theorem loadShift_tempRaw (v : Byte) : (loadShift v s).tempRaw = s.tempRaw := rfl
@[simp] theorem loadShift_sp (v : Byte) : (loadShift v s).sp = s.sp := rfl
@[simp] theorem loadShift_tb (v : Byte) : (loadShift v s).tb = s.tb := rfl
@[simp] theorem loadShift_pend (v : Byte) : (loadShift v s).pend = s.pend := rfl
@[simp] theorem loadShift_pcmd (v : Byte) : (loadShift v s).pcmd = s.pcmd := rfl
@[simp] theorem loadShift_mp (v : Byte) : (loadShift v s).mp = s.mp := rfl
@[simp] theorem loadShift_wtgt (v : Byte) : (loadShift v s).wtgt = s.wtgt := rfl
@[simp] theorem loadShift_shift (v : Byte) : (loadShift v s).shift = v := rfl
@[simp] theorem loadShift_bitcnt (v : Byte) : (loadShift v s).bitcnt = 0 := rfl
@[simp] theorem loadShift_bytecnt (v : Byte) : (loadShift v s).bytecnt = s.bytecnt := rfl
@[simp] theorem loadShift_loopcnt (v : Byte) : (loadShift v s).loopcnt = s.loopcnt := rfl
@[simp] theorem loadShift_s1 (v : Byte) : (loadShift v s).s1 = s.s1 := rfl
@[simp] theorem loadShift_s2 (v : Byte) : (loadShift v s).s2 = s.s2 := rfl
@[simp] theorem loadShift_rb (v : Byte) : (loadShift v s).rb = s.rb := rfl
@[simp] theorem loadShift_gt (v : Byte) : (loadShift v s).gt = s.gt := rfl
@[simp] theorem loadShift_trace (v : Byte) : (loadShift v s).trace = s.trace := rfl
@[simp] theorem loadShift_rst (v : Byte) : (loadShift v s).rst = s.rst := rfl
@[simp] theorem loadShift_owIn (v : Byte) : (loadShift v s).owIn = s.owIn := rfl
@[simp] theorem loadShift_rdata (v : Byte) : (loadShift v s).rdata = s.rdata := rfl
@[simp] theorem loadShift_inputs (v : Byte) : (loadShift v s).inputs = s.inputs := rfl

/-! `shiftOut s` -/
@[simp] theorem shiftOut_busy : (shiftOut s).busy = s.busy := rfl
@[simp] theorem shiftOut_drive : (shiftOut s).drive = s.drive := rfl
@[simp] theorem shiftOut_pres : (shiftOut s).pres = s.pres := rfl
@[simp] theorem shiftOut_pres1 : (shiftOut s).pres1 = s.pres1 := rfl
@[simp] theorem shiftOut_pres2 : (shiftOut s).pres2 = s.pres2 := rfl
@[simp] theorem shiftOut_pres3 : (shiftOut s).pres3 = s.pres3 := rfl
@[simp] theorem shiftOut_minus : (shiftOut s).minus = s.minus := rfl
@[simp] theorem shiftOut_errIll : (shiftOut s).errIll = s.errIll := rfl
@[simp] theorem shiftOut_errOvr : (shiftOut s).errOvr = s.errOvr := rfl
@[simp] theorem shiftOut_seq : (shiftOut s).seq = s.seq := rfl
@[simp] theorem shiftOut_data : (shiftOut s).data = s.data := rfl
@[simp] theorem shiftOut_tempInt : (shiftOut s).tempInt = s.tempInt := rfl
@[simp] theorem shiftOut_tempFrac : (shiftOut s).tempFrac = s.tempFrac := rfl
@[simp] theorem shiftOut_tempRaw : (shiftOut s).tempRaw = s.tempRaw := rfl
@[simp] theorem shiftOut_sp : (shiftOut s).sp = s.sp := rfl
@[simp] theorem shiftOut_tb : (shiftOut s).tb = s.tb := rfl
@[simp] theorem shiftOut_pend : (shiftOut s).pend = s.pend := rfl
@[simp] theorem shiftOut_pcmd : (shiftOut s).pcmd = s.pcmd := rfl
@[simp] theorem shiftOut_mp : (shiftOut s).mp = s.mp := rfl
@[simp] theorem shiftOut_wtgt : (shiftOut s).wtgt = s.wtgt := rfl
@[simp] theorem shiftOut_shift : (shiftOut s).shift = s.shift >>> 1 := rfl
@[simp] theorem shiftOut_bitcnt : (shiftOut s).bitcnt = s.bitcnt + 1 := rfl
@[simp] theorem shiftOut_bytecnt : (shiftOut s).bytecnt = s.bytecnt := rfl
@[simp] theorem shiftOut_loopcnt : (shiftOut s).loopcnt = s.loopcnt := rfl
@[simp] theorem shiftOut_s1 : (shiftOut s).s1 = s.s1 := rfl
@[simp] theorem shiftOut_s2 : (shiftOut s).s2 = s.s2 := rfl
@[simp] theorem shiftOut_rb : (shiftOut s).rb = s.rb := rfl
@[simp] theorem shiftOut_gt : (shiftOut s).gt = s.gt := rfl
@[simp] theorem shiftOut_trace : (shiftOut s).trace = s.trace := rfl
@[simp] theorem shiftOut_rst : (shiftOut s).rst = s.rst := rfl
@[simp] theorem shiftOut_owIn : (shiftOut s).owIn = s.owIn := rfl
@[simp] theorem shiftOut_rdata : (shiftOut s).rdata = s.rdata := rfl
@[simp] theorem shiftOut_inputs : (shiftOut s).inputs = s.inputs := rfl

/-! `shiftIn s` -/
@[simp] theorem shiftIn_busy : (shiftIn s).busy = s.busy := rfl
@[simp] theorem shiftIn_drive : (shiftIn s).drive = s.drive := rfl
@[simp] theorem shiftIn_pres : (shiftIn s).pres = s.pres := rfl
@[simp] theorem shiftIn_pres1 : (shiftIn s).pres1 = s.pres1 := rfl
@[simp] theorem shiftIn_pres2 : (shiftIn s).pres2 = s.pres2 := rfl
@[simp] theorem shiftIn_pres3 : (shiftIn s).pres3 = s.pres3 := rfl
@[simp] theorem shiftIn_minus : (shiftIn s).minus = s.minus := rfl
@[simp] theorem shiftIn_errIll : (shiftIn s).errIll = s.errIll := rfl
@[simp] theorem shiftIn_errOvr : (shiftIn s).errOvr = s.errOvr := rfl
@[simp] theorem shiftIn_seq : (shiftIn s).seq = s.seq := rfl
@[simp] theorem shiftIn_data : (shiftIn s).data = s.data := rfl
@[simp] theorem shiftIn_tempInt : (shiftIn s).tempInt = s.tempInt := rfl
@[simp] theorem shiftIn_tempFrac : (shiftIn s).tempFrac = s.tempFrac := rfl
@[simp] theorem shiftIn_tempRaw : (shiftIn s).tempRaw = s.tempRaw := rfl
@[simp] theorem shiftIn_sp : (shiftIn s).sp = s.sp := rfl
@[simp] theorem shiftIn_tb : (shiftIn s).tb = s.tb := rfl
@[simp] theorem shiftIn_pend : (shiftIn s).pend = s.pend := rfl
@[simp] theorem shiftIn_pcmd : (shiftIn s).pcmd = s.pcmd := rfl
@[simp] theorem shiftIn_mp : (shiftIn s).mp = s.mp := rfl
@[simp] theorem shiftIn_wtgt : (shiftIn s).wtgt = s.wtgt := rfl
@[simp] theorem shiftIn_shift : (shiftIn s).shift = (s.shift >>> 1) ||| ((BitVec.ofBool s.rb).setWidth 8 <<< 7) := rfl
@[simp] theorem shiftIn_bitcnt : (shiftIn s).bitcnt = s.bitcnt + 1 := rfl
@[simp] theorem shiftIn_bytecnt : (shiftIn s).bytecnt = s.bytecnt := rfl
@[simp] theorem shiftIn_loopcnt : (shiftIn s).loopcnt = s.loopcnt := rfl
@[simp] theorem shiftIn_s1 : (shiftIn s).s1 = s.s1 := rfl
@[simp] theorem shiftIn_s2 : (shiftIn s).s2 = s.s2 := rfl
@[simp] theorem shiftIn_rb : (shiftIn s).rb = s.rb := rfl
@[simp] theorem shiftIn_gt : (shiftIn s).gt = s.gt := rfl
@[simp] theorem shiftIn_trace : (shiftIn s).trace = s.trace := rfl
@[simp] theorem shiftIn_rst : (shiftIn s).rst = s.rst := rfl
@[simp] theorem shiftIn_owIn : (shiftIn s).owIn = s.owIn := rfl
@[simp] theorem shiftIn_rdata : (shiftIn s).rdata = s.rdata := rfl
@[simp] theorem shiftIn_inputs : (shiftIn s).inputs = s.inputs := rfl

/-! `storeSp s` -/
@[simp] theorem storeSp_busy : (storeSp s).busy = s.busy := rfl
@[simp] theorem storeSp_drive : (storeSp s).drive = s.drive := rfl
@[simp] theorem storeSp_pres : (storeSp s).pres = s.pres := rfl
@[simp] theorem storeSp_pres1 : (storeSp s).pres1 = s.pres1 := rfl
@[simp] theorem storeSp_pres2 : (storeSp s).pres2 = s.pres2 := rfl
@[simp] theorem storeSp_pres3 : (storeSp s).pres3 = s.pres3 := rfl
@[simp] theorem storeSp_minus : (storeSp s).minus = s.minus := rfl
@[simp] theorem storeSp_errIll : (storeSp s).errIll = s.errIll := rfl
@[simp] theorem storeSp_errOvr : (storeSp s).errOvr = s.errOvr := rfl
@[simp] theorem storeSp_seq : (storeSp s).seq = s.seq := rfl
@[simp] theorem storeSp_data : (storeSp s).data = s.data := rfl
@[simp] theorem storeSp_tempInt : (storeSp s).tempInt = s.tempInt := rfl
@[simp] theorem storeSp_tempFrac : (storeSp s).tempFrac = s.tempFrac := rfl
@[simp] theorem storeSp_tempRaw : (storeSp s).tempRaw = s.tempRaw := rfl
@[simp] theorem storeSp_sp : (storeSp s).sp = s.sp.setIfInBounds s.bytecnt s.shift := rfl
@[simp] theorem storeSp_tb : (storeSp s).tb = s.tb := rfl
@[simp] theorem storeSp_pend : (storeSp s).pend = s.pend := rfl
@[simp] theorem storeSp_pcmd : (storeSp s).pcmd = s.pcmd := rfl
@[simp] theorem storeSp_mp : (storeSp s).mp = s.mp := rfl
@[simp] theorem storeSp_wtgt : (storeSp s).wtgt = s.wtgt := rfl
@[simp] theorem storeSp_shift : (storeSp s).shift = s.shift := rfl
@[simp] theorem storeSp_bitcnt : (storeSp s).bitcnt = s.bitcnt := rfl
@[simp] theorem storeSp_bytecnt : (storeSp s).bytecnt = s.bytecnt + 1 := rfl
@[simp] theorem storeSp_loopcnt : (storeSp s).loopcnt = s.loopcnt := rfl
@[simp] theorem storeSp_s1 : (storeSp s).s1 = s.s1 := rfl
@[simp] theorem storeSp_s2 : (storeSp s).s2 = s.s2 := rfl
@[simp] theorem storeSp_rb : (storeSp s).rb = s.rb := rfl
@[simp] theorem storeSp_gt : (storeSp s).gt = s.gt := rfl
@[simp] theorem storeSp_trace : (storeSp s).trace = s.trace := rfl
@[simp] theorem storeSp_rst : (storeSp s).rst = s.rst := rfl
@[simp] theorem storeSp_owIn : (storeSp s).owIn = s.owIn := rfl
@[simp] theorem storeSp_rdata : (storeSp s).rdata = s.rdata := rfl
@[simp] theorem storeSp_inputs : (storeSp s).inputs = s.inputs := rfl

/-! `clearErrors s` -/
@[simp] theorem clearErrors_busy : (clearErrors s).busy = s.busy := rfl
@[simp] theorem clearErrors_drive : (clearErrors s).drive = s.drive := rfl
@[simp] theorem clearErrors_pres : (clearErrors s).pres = s.pres := rfl
@[simp] theorem clearErrors_pres1 : (clearErrors s).pres1 = s.pres1 := rfl
@[simp] theorem clearErrors_pres2 : (clearErrors s).pres2 = s.pres2 := rfl
@[simp] theorem clearErrors_pres3 : (clearErrors s).pres3 = s.pres3 := rfl
@[simp] theorem clearErrors_minus : (clearErrors s).minus = s.minus := rfl
@[simp] theorem clearErrors_errIll : (clearErrors s).errIll = false := rfl
@[simp] theorem clearErrors_errOvr : (clearErrors s).errOvr = false := rfl
@[simp] theorem clearErrors_seq : (clearErrors s).seq = s.seq := rfl
@[simp] theorem clearErrors_data : (clearErrors s).data = s.data := rfl
@[simp] theorem clearErrors_tempInt : (clearErrors s).tempInt = s.tempInt := rfl
@[simp] theorem clearErrors_tempFrac : (clearErrors s).tempFrac = s.tempFrac := rfl
@[simp] theorem clearErrors_tempRaw : (clearErrors s).tempRaw = s.tempRaw := rfl
@[simp] theorem clearErrors_sp : (clearErrors s).sp = s.sp := rfl
@[simp] theorem clearErrors_tb : (clearErrors s).tb = s.tb := rfl
@[simp] theorem clearErrors_pend : (clearErrors s).pend = s.pend := rfl
@[simp] theorem clearErrors_pcmd : (clearErrors s).pcmd = s.pcmd := rfl
@[simp] theorem clearErrors_mp : (clearErrors s).mp = s.mp := rfl
@[simp] theorem clearErrors_wtgt : (clearErrors s).wtgt = s.wtgt := rfl
@[simp] theorem clearErrors_shift : (clearErrors s).shift = s.shift := rfl
@[simp] theorem clearErrors_bitcnt : (clearErrors s).bitcnt = s.bitcnt := rfl
@[simp] theorem clearErrors_bytecnt : (clearErrors s).bytecnt = s.bytecnt := rfl
@[simp] theorem clearErrors_loopcnt : (clearErrors s).loopcnt = s.loopcnt := rfl
@[simp] theorem clearErrors_s1 : (clearErrors s).s1 = s.s1 := rfl
@[simp] theorem clearErrors_s2 : (clearErrors s).s2 = s.s2 := rfl
@[simp] theorem clearErrors_rb : (clearErrors s).rb = s.rb := rfl
@[simp] theorem clearErrors_gt : (clearErrors s).gt = s.gt := rfl
@[simp] theorem clearErrors_trace : (clearErrors s).trace = s.trace := rfl
@[simp] theorem clearErrors_rst : (clearErrors s).rst = s.rst := rfl
@[simp] theorem clearErrors_owIn : (clearErrors s).owIn = s.owIn := rfl
@[simp] theorem clearErrors_rdata : (clearErrors s).rdata = s.rdata := rfl
@[simp] theorem clearErrors_inputs : (clearErrors s).inputs = s.inputs := rfl

/-! `clearPhasePres s` -/
@[simp] theorem clearPhasePres_busy : (clearPhasePres s).busy = s.busy := rfl
@[simp] theorem clearPhasePres_drive : (clearPhasePres s).drive = s.drive := rfl
@[simp] theorem clearPhasePres_pres : (clearPhasePres s).pres = s.pres := rfl
@[simp] theorem clearPhasePres_pres1 : (clearPhasePres s).pres1 = false := rfl
@[simp] theorem clearPhasePres_pres2 : (clearPhasePres s).pres2 = false := rfl
@[simp] theorem clearPhasePres_pres3 : (clearPhasePres s).pres3 = false := rfl
@[simp] theorem clearPhasePres_minus : (clearPhasePres s).minus = s.minus := rfl
@[simp] theorem clearPhasePres_errIll : (clearPhasePres s).errIll = s.errIll := rfl
@[simp] theorem clearPhasePres_errOvr : (clearPhasePres s).errOvr = s.errOvr := rfl
@[simp] theorem clearPhasePres_seq : (clearPhasePres s).seq = s.seq := rfl
@[simp] theorem clearPhasePres_data : (clearPhasePres s).data = s.data := rfl
@[simp] theorem clearPhasePres_tempInt : (clearPhasePres s).tempInt = s.tempInt := rfl
@[simp] theorem clearPhasePres_tempFrac : (clearPhasePres s).tempFrac = s.tempFrac := rfl
@[simp] theorem clearPhasePres_tempRaw : (clearPhasePres s).tempRaw = s.tempRaw := rfl
@[simp] theorem clearPhasePres_sp : (clearPhasePres s).sp = s.sp := rfl
@[simp] theorem clearPhasePres_tb : (clearPhasePres s).tb = s.tb := rfl
@[simp] theorem clearPhasePres_pend : (clearPhasePres s).pend = s.pend := rfl
@[simp] theorem clearPhasePres_pcmd : (clearPhasePres s).pcmd = s.pcmd := rfl
@[simp] theorem clearPhasePres_mp : (clearPhasePres s).mp = s.mp := rfl
@[simp] theorem clearPhasePres_wtgt : (clearPhasePres s).wtgt = s.wtgt := rfl
@[simp] theorem clearPhasePres_shift : (clearPhasePres s).shift = s.shift := rfl
@[simp] theorem clearPhasePres_bitcnt : (clearPhasePres s).bitcnt = s.bitcnt := rfl
@[simp] theorem clearPhasePres_bytecnt : (clearPhasePres s).bytecnt = s.bytecnt := rfl
@[simp] theorem clearPhasePres_loopcnt : (clearPhasePres s).loopcnt = s.loopcnt := rfl
@[simp] theorem clearPhasePres_s1 : (clearPhasePres s).s1 = s.s1 := rfl
@[simp] theorem clearPhasePres_s2 : (clearPhasePres s).s2 = s.s2 := rfl
@[simp] theorem clearPhasePres_rb : (clearPhasePres s).rb = s.rb := rfl
@[simp] theorem clearPhasePres_gt : (clearPhasePres s).gt = s.gt := rfl
@[simp] theorem clearPhasePres_trace : (clearPhasePres s).trace = s.trace := rfl
@[simp] theorem clearPhasePres_rst : (clearPhasePres s).rst = s.rst := rfl
@[simp] theorem clearPhasePres_owIn : (clearPhasePres s).owIn = s.owIn := rfl
@[simp] theorem clearPhasePres_rdata : (clearPhasePres s).rdata = s.rdata := rfl
@[simp] theorem clearPhasePres_inputs : (clearPhasePres s).inputs = s.inputs := rfl

/-! `decodeSp p s` -/
@[simp] theorem decodeSp_busy (p : Params) : (decodeSp p s).busy = s.busy := rfl
@[simp] theorem decodeSp_drive (p : Params) : (decodeSp p s).drive = s.drive := rfl
@[simp] theorem decodeSp_pres (p : Params) : (decodeSp p s).pres = s.pres := rfl
@[simp] theorem decodeSp_pres1 (p : Params) : (decodeSp p s).pres1 = s.pres1 := rfl
@[simp] theorem decodeSp_pres2 (p : Params) : (decodeSp p s).pres2 = s.pres2 := rfl
@[simp] theorem decodeSp_pres3 (p : Params) : (decodeSp p s).pres3 = s.pres3 := rfl
@[simp] theorem decodeSp_minus (p : Params) : (decodeSp p s).minus = minusOf s.sp[1] := rfl
@[simp] theorem decodeSp_errIll (p : Params) : (decodeSp p s).errIll = s.errIll := rfl
@[simp] theorem decodeSp_errOvr (p : Params) : (decodeSp p s).errOvr = s.errOvr := rfl
@[simp] theorem decodeSp_seq (p : Params) : (decodeSp p s).seq = s.seq := rfl
@[simp] theorem decodeSp_data (p : Params) : (decodeSp p s).data = s.data := rfl
@[simp] theorem decodeSp_tempInt (p : Params) : (decodeSp p s).tempInt = tempIntOf s.sp[0] s.sp[1] := rfl
@[simp] theorem decodeSp_tempFrac (p : Params) : (decodeSp p s).tempFrac = tempFracOf p s.sp[0] := rfl
@[simp] theorem decodeSp_tempRaw (p : Params) : (decodeSp p s).tempRaw = tempRawOf s.sp[0] s.sp[1] := rfl
@[simp] theorem decodeSp_sp (p : Params) : (decodeSp p s).sp = s.sp := rfl
@[simp] theorem decodeSp_tb (p : Params) : (decodeSp p s).tb = s.tb := rfl
@[simp] theorem decodeSp_pend (p : Params) : (decodeSp p s).pend = s.pend := rfl
@[simp] theorem decodeSp_pcmd (p : Params) : (decodeSp p s).pcmd = s.pcmd := rfl
@[simp] theorem decodeSp_mp (p : Params) : (decodeSp p s).mp = s.mp := rfl
@[simp] theorem decodeSp_wtgt (p : Params) : (decodeSp p s).wtgt = s.wtgt := rfl
@[simp] theorem decodeSp_shift (p : Params) : (decodeSp p s).shift = s.shift := rfl
@[simp] theorem decodeSp_bitcnt (p : Params) : (decodeSp p s).bitcnt = s.bitcnt := rfl
@[simp] theorem decodeSp_bytecnt (p : Params) : (decodeSp p s).bytecnt = s.bytecnt := rfl
@[simp] theorem decodeSp_loopcnt (p : Params) : (decodeSp p s).loopcnt = s.loopcnt := rfl
@[simp] theorem decodeSp_s1 (p : Params) : (decodeSp p s).s1 = s.s1 := rfl
@[simp] theorem decodeSp_s2 (p : Params) : (decodeSp p s).s2 = s.s2 := rfl
@[simp] theorem decodeSp_rb (p : Params) : (decodeSp p s).rb = s.rb := rfl
@[simp] theorem decodeSp_gt (p : Params) : (decodeSp p s).gt = s.gt := rfl
@[simp] theorem decodeSp_trace (p : Params) : (decodeSp p s).trace = s.trace := rfl
@[simp] theorem decodeSp_rst (p : Params) : (decodeSp p s).rst = s.rst := rfl
@[simp] theorem decodeSp_owIn (p : Params) : (decodeSp p s).owIn = s.owIn := rfl
@[simp] theorem decodeSp_rdata (p : Params) : (decodeSp p s).rdata = s.rdata := rfl
@[simp] theorem decodeSp_inputs (p : Params) : (decodeSp p s).inputs = s.inputs := rfl

/-! `startWait p n s` -/
@[simp] theorem startWait_busy (p : Params) (n : Half) : (startWait p n s).busy = s.busy := rfl
@[simp] theorem startWait_drive (p : Params) (n : Half) : (startWait p n s).drive = s.drive := rfl
@[simp] theorem startWait_pres (p : Params) (n : Half) : (startWait p n s).pres = s.pres := rfl
@[simp] theorem startWait_pres1 (p : Params) (n : Half) : (startWait p n s).pres1 = s.pres1 := rfl
@[simp] theorem startWait_pres2 (p : Params) (n : Half) : (startWait p n s).pres2 = s.pres2 := rfl
@[simp] theorem startWait_pres3 (p : Params) (n : Half) : (startWait p n s).pres3 = s.pres3 := rfl
@[simp] theorem startWait_minus (p : Params) (n : Half) : (startWait p n s).minus = s.minus := rfl
@[simp] theorem startWait_errIll (p : Params) (n : Half) : (startWait p n s).errIll = s.errIll := rfl
@[simp] theorem startWait_errOvr (p : Params) (n : Half) : (startWait p n s).errOvr = s.errOvr := rfl
@[simp] theorem startWait_seq (p : Params) (n : Half) : (startWait p n s).seq = s.seq := rfl
@[simp] theorem startWait_data (p : Params) (n : Half) : (startWait p n s).data = s.data := rfl
@[simp] theorem startWait_tempInt (p : Params) (n : Half) : (startWait p n s).tempInt = s.tempInt := rfl
@[simp] theorem startWait_tempFrac (p : Params) (n : Half) : (startWait p n s).tempFrac = s.tempFrac := rfl
@[simp] theorem startWait_tempRaw (p : Params) (n : Half) : (startWait p n s).tempRaw = s.tempRaw := rfl
@[simp] theorem startWait_sp (p : Params) (n : Half) : (startWait p n s).sp = s.sp := rfl
@[simp] theorem startWait_tb (p : Params) (n : Half) : (startWait p n s).tb = 0 := rfl
@[simp] theorem startWait_pend (p : Params) (n : Half) : (startWait p n s).pend = s.pend := rfl
@[simp] theorem startWait_pcmd (p : Params) (n : Half) : (startWait p n s).pcmd = s.pcmd := rfl
@[simp] theorem startWait_mp (p : Params) (n : Half) : (startWait p n s).mp = s.mp := rfl
@[simp] theorem startWait_wtgt (p : Params) (n : Half) : (startWait p n s).wtgt = n.toNat + p.waitExtra := rfl
@[simp] theorem startWait_shift (p : Params) (n : Half) : (startWait p n s).shift = s.shift := rfl
@[simp] theorem startWait_bitcnt (p : Params) (n : Half) : (startWait p n s).bitcnt = s.bitcnt := rfl
@[simp] theorem startWait_bytecnt (p : Params) (n : Half) : (startWait p n s).bytecnt = s.bytecnt := rfl
@[simp] theorem startWait_loopcnt (p : Params) (n : Half) : (startWait p n s).loopcnt = s.loopcnt := rfl
@[simp] theorem startWait_s1 (p : Params) (n : Half) : (startWait p n s).s1 = s.s1 := rfl
@[simp] theorem startWait_s2 (p : Params) (n : Half) : (startWait p n s).s2 = s.s2 := rfl
@[simp] theorem startWait_rb (p : Params) (n : Half) : (startWait p n s).rb = s.rb := rfl
@[simp] theorem startWait_gt (p : Params) (n : Half) : (startWait p n s).gt = s.gt := rfl
@[simp] theorem startWait_trace (p : Params) (n : Half) : (startWait p n s).trace = s.trace := rfl
@[simp] theorem startWait_rst (p : Params) (n : Half) : (startWait p n s).rst = s.rst := rfl
@[simp] theorem startWait_owIn (p : Params) (n : Half) : (startWait p n s).owIn = s.owIn := rfl
@[simp] theorem startWait_rdata (p : Params) (n : Half) : (startWait p n s).rdata = s.rdata := rfl
@[simp] theorem startWait_inputs (p : Params) (n : Half) : (startWait p n s).inputs = s.inputs := rfl

/-! `complete s` -/
@[simp] theorem complete_busy : (complete s).busy = false := rfl
@[simp] theorem complete_drive : (complete s).drive = s.drive := rfl
@[simp] theorem complete_pres : (complete s).pres = s.pres := rfl
@[simp] theorem complete_pres1 : (complete s).pres1 = s.pres1 := rfl
@[simp] theorem complete_pres2 : (complete s).pres2 = s.pres2 := rfl
@[simp] theorem complete_pres3 : (complete s).pres3 = s.pres3 := rfl
@[simp] theorem complete_minus : (complete s).minus = s.minus := rfl
@[simp] theorem complete_errIll : (complete s).errIll = s.errIll := rfl
@[simp] theorem complete_errOvr : (complete s).errOvr = s.errOvr := rfl
@[simp] theorem complete_seq : (complete s).seq = .idle := rfl
@[simp] theorem complete_data : (complete s).data = s.data := rfl
@[simp] theorem complete_tempInt : (complete s).tempInt = s.tempInt := rfl
@[simp] theorem complete_tempFrac : (complete s).tempFrac = s.tempFrac := rfl
@[simp] theorem complete_tempRaw : (complete s).tempRaw = s.tempRaw := rfl
@[simp] theorem complete_sp : (complete s).sp = s.sp := rfl
@[simp] theorem complete_tb : (complete s).tb = s.tb := rfl
@[simp] theorem complete_pend : (complete s).pend = false := rfl
@[simp] theorem complete_pcmd : (complete s).pcmd = 0 := rfl
@[simp] theorem complete_mp : (complete s).mp = .empty := rfl
@[simp] theorem complete_wtgt : (complete s).wtgt = s.wtgt := rfl
@[simp] theorem complete_shift : (complete s).shift = s.shift := rfl
@[simp] theorem complete_bitcnt : (complete s).bitcnt = s.bitcnt := rfl
@[simp] theorem complete_bytecnt : (complete s).bytecnt = s.bytecnt := rfl
@[simp] theorem complete_loopcnt : (complete s).loopcnt = s.loopcnt := rfl
@[simp] theorem complete_s1 : (complete s).s1 = s.s1 := rfl
@[simp] theorem complete_s2 : (complete s).s2 = s.s2 := rfl
@[simp] theorem complete_rb : (complete s).rb = s.rb := rfl
@[simp] theorem complete_gt : (complete s).gt = s.gt := rfl
@[simp] theorem complete_trace : (complete s).trace = s.trace := rfl
@[simp] theorem complete_rst : (complete s).rst = s.rst := rfl
@[simp] theorem complete_owIn : (complete s).owIn = s.owIn := rfl
@[simp] theorem complete_rdata : (complete s).rdata = s.rdata := rfl
@[simp] theorem complete_inputs : (complete s).inputs = s.inputs := rfl

/-! `countTick l s` -/
@[simp] theorem countTick_busy (l : Bool) : (countTick l s).busy = s.busy := rfl
@[simp] theorem countTick_drive (l : Bool) : (countTick l s).drive = s.drive := rfl
@[simp] theorem countTick_pres (l : Bool) : (countTick l s).pres = s.pres := rfl
@[simp] theorem countTick_pres1 (l : Bool) : (countTick l s).pres1 = s.pres1 := rfl
@[simp] theorem countTick_pres2 (l : Bool) : (countTick l s).pres2 = s.pres2 := rfl
@[simp] theorem countTick_pres3 (l : Bool) : (countTick l s).pres3 = s.pres3 := rfl
@[simp] theorem countTick_minus (l : Bool) : (countTick l s).minus = s.minus := rfl
@[simp] theorem countTick_errIll (l : Bool) : (countTick l s).errIll = s.errIll := rfl
@[simp] theorem countTick_errOvr (l : Bool) : (countTick l s).errOvr = s.errOvr := rfl
@[simp] theorem countTick_seq (l : Bool) : (countTick l s).seq = s.seq := rfl
@[simp] theorem countTick_data (l : Bool) : (countTick l s).data = s.data := rfl
@[simp] theorem countTick_tempInt (l : Bool) : (countTick l s).tempInt = s.tempInt := rfl
@[simp] theorem countTick_tempFrac (l : Bool) : (countTick l s).tempFrac = s.tempFrac := rfl
@[simp] theorem countTick_tempRaw (l : Bool) : (countTick l s).tempRaw = s.tempRaw := rfl
@[simp] theorem countTick_sp (l : Bool) : (countTick l s).sp = s.sp := rfl
@[simp] theorem countTick_tb (l : Bool) : (countTick l s).tb = s.tb + 1 := rfl
@[simp] theorem countTick_pend (l : Bool) : (countTick l s).pend = s.pend := rfl
@[simp] theorem countTick_pcmd (l : Bool) : (countTick l s).pcmd = s.pcmd := rfl
@[simp] theorem countTick_mp (l : Bool) : (countTick l s).mp = s.mp := rfl
@[simp] theorem countTick_wtgt (l : Bool) : (countTick l s).wtgt = s.wtgt := rfl
@[simp] theorem countTick_shift (l : Bool) : (countTick l s).shift = s.shift := rfl
@[simp] theorem countTick_bitcnt (l : Bool) : (countTick l s).bitcnt = s.bitcnt := rfl
@[simp] theorem countTick_bytecnt (l : Bool) : (countTick l s).bytecnt = s.bytecnt := rfl
@[simp] theorem countTick_loopcnt (l : Bool) : (countTick l s).loopcnt = s.loopcnt := rfl
@[simp] theorem countTick_s1 (l : Bool) : (countTick l s).s1 = s.s1 := rfl
@[simp] theorem countTick_s2 (l : Bool) : (countTick l s).s2 = s.s2 := rfl
@[simp] theorem countTick_rb (l : Bool) : (countTick l s).rb = s.rb := rfl
@[simp] theorem countTick_gt (l : Bool) : (countTick l s).gt = s.gt + 1 := rfl
@[simp] theorem countTick_trace (l : Bool) : (countTick l s).trace = s.trace := rfl
@[simp] theorem countTick_rst (l : Bool) : (countTick l s).rst = s.rst := rfl
@[simp] theorem countTick_owIn (l : Bool) : (countTick l s).owIn = l := rfl
@[simp] theorem countTick_rdata (l : Bool) : (countTick l s).rdata = s.rdata := rfl
@[simp] theorem countTick_inputs (l : Bool) : (countTick l s).inputs = s.inputs := rfl

/-! `accept w i s` -/
@[simp] theorem accept_busy (w : Word) (i : Instr) : (accept w i s).busy = true := rfl
@[simp] theorem accept_drive (w : Word) (i : Instr) : (accept w i s).drive = s.drive := rfl
@[simp] theorem accept_pres (w : Word) (i : Instr) : (accept w i s).pres = s.pres := rfl
@[simp] theorem accept_pres1 (w : Word) (i : Instr) : (accept w i s).pres1 = s.pres1 := rfl
@[simp] theorem accept_pres2 (w : Word) (i : Instr) : (accept w i s).pres2 = s.pres2 := rfl
@[simp] theorem accept_pres3 (w : Word) (i : Instr) : (accept w i s).pres3 = s.pres3 := rfl
@[simp] theorem accept_minus (w : Word) (i : Instr) : (accept w i s).minus = s.minus := rfl
@[simp] theorem accept_errIll (w : Word) (i : Instr) : (accept w i s).errIll = s.errIll := rfl
@[simp] theorem accept_errOvr (w : Word) (i : Instr) : (accept w i s).errOvr = s.errOvr := rfl
@[simp] theorem accept_seq (w : Word) (i : Instr) : (accept w i s).seq = initialSeq i := rfl
@[simp] theorem accept_data (w : Word) (i : Instr) : (accept w i s).data = s.data := rfl
@[simp] theorem accept_tempInt (w : Word) (i : Instr) : (accept w i s).tempInt = s.tempInt := rfl
@[simp] theorem accept_tempFrac (w : Word) (i : Instr) : (accept w i s).tempFrac = s.tempFrac := rfl
@[simp] theorem accept_tempRaw (w : Word) (i : Instr) : (accept w i s).tempRaw = s.tempRaw := rfl
@[simp] theorem accept_sp (w : Word) (i : Instr) : (accept w i s).sp = s.sp := rfl
@[simp] theorem accept_tb (w : Word) (i : Instr) : (accept w i s).tb = s.tb := rfl
@[simp] theorem accept_pend (w : Word) (i : Instr) : (accept w i s).pend = true := rfl
@[simp] theorem accept_pcmd (w : Word) (i : Instr) : (accept w i s).pcmd = w := rfl
@[simp] theorem accept_mp (w : Word) (i : Instr) : (accept w i s).mp = s.mp := rfl
@[simp] theorem accept_wtgt (w : Word) (i : Instr) : (accept w i s).wtgt = s.wtgt := rfl
@[simp] theorem accept_shift (w : Word) (i : Instr) : (accept w i s).shift = s.shift := rfl
@[simp] theorem accept_bitcnt (w : Word) (i : Instr) : (accept w i s).bitcnt = s.bitcnt := rfl
@[simp] theorem accept_bytecnt (w : Word) (i : Instr) : (accept w i s).bytecnt = s.bytecnt := rfl
@[simp] theorem accept_loopcnt (w : Word) (i : Instr) : (accept w i s).loopcnt = s.loopcnt := rfl
@[simp] theorem accept_s1 (w : Word) (i : Instr) : (accept w i s).s1 = s.s1 := rfl
@[simp] theorem accept_s2 (w : Word) (i : Instr) : (accept w i s).s2 = s.s2 := rfl
@[simp] theorem accept_rb (w : Word) (i : Instr) : (accept w i s).rb = s.rb := rfl
@[simp] theorem accept_gt (w : Word) (i : Instr) : (accept w i s).gt = s.gt := rfl
@[simp] theorem accept_trace (w : Word) (i : Instr) : (accept w i s).trace = s.trace := rfl
@[simp] theorem accept_rst (w : Word) (i : Instr) : (accept w i s).rst = s.rst := rfl
@[simp] theorem accept_owIn (w : Word) (i : Instr) : (accept w i s).owIn = s.owIn := rfl
@[simp] theorem accept_rdata (w : Word) (i : Instr) : (accept w i s).rdata = s.rdata := rfl
@[simp] theorem accept_inputs (w : Word) (i : Instr) : (accept w i s).inputs = s.inputs := rfl

/-! `writeStatus v s` -/
@[simp] theorem writeStatus_busy (v : Word) : (writeStatus v s).busy = s.busy := rfl
@[simp] theorem writeStatus_drive (v : Word) : (writeStatus v s).drive = s.drive := rfl
@[simp] theorem writeStatus_pres (v : Word) : (writeStatus v s).pres = s.pres := rfl
@[simp] theorem writeStatus_pres1 (v : Word) : (writeStatus v s).pres1 = s.pres1 := rfl
@[simp] theorem writeStatus_pres2 (v : Word) : (writeStatus v s).pres2 = s.pres2 := rfl
@[simp] theorem writeStatus_pres3 (v : Word) : (writeStatus v s).pres3 = s.pres3 := rfl
@[simp] theorem writeStatus_minus (v : Word) : (writeStatus v s).minus = s.minus := rfl
@[simp] theorem writeStatus_errIll (v : Word) : (writeStatus v s).errIll = (s.errIll && !v.getLsbD 8) := rfl
@[simp] theorem writeStatus_errOvr (v : Word) : (writeStatus v s).errOvr = (s.errOvr && !v.getLsbD 9) := rfl
@[simp] theorem writeStatus_seq (v : Word) : (writeStatus v s).seq = s.seq := rfl
@[simp] theorem writeStatus_data (v : Word) : (writeStatus v s).data = s.data := rfl
@[simp] theorem writeStatus_tempInt (v : Word) : (writeStatus v s).tempInt = s.tempInt := rfl
@[simp] theorem writeStatus_tempFrac (v : Word) : (writeStatus v s).tempFrac = s.tempFrac := rfl
@[simp] theorem writeStatus_tempRaw (v : Word) : (writeStatus v s).tempRaw = s.tempRaw := rfl
@[simp] theorem writeStatus_sp (v : Word) : (writeStatus v s).sp = s.sp := rfl
@[simp] theorem writeStatus_tb (v : Word) : (writeStatus v s).tb = s.tb := rfl
@[simp] theorem writeStatus_pend (v : Word) : (writeStatus v s).pend = s.pend := rfl
@[simp] theorem writeStatus_pcmd (v : Word) : (writeStatus v s).pcmd = s.pcmd := rfl
@[simp] theorem writeStatus_mp (v : Word) : (writeStatus v s).mp = s.mp := rfl
@[simp] theorem writeStatus_wtgt (v : Word) : (writeStatus v s).wtgt = s.wtgt := rfl
@[simp] theorem writeStatus_shift (v : Word) : (writeStatus v s).shift = s.shift := rfl
@[simp] theorem writeStatus_bitcnt (v : Word) : (writeStatus v s).bitcnt = s.bitcnt := rfl
@[simp] theorem writeStatus_bytecnt (v : Word) : (writeStatus v s).bytecnt = s.bytecnt := rfl
@[simp] theorem writeStatus_loopcnt (v : Word) : (writeStatus v s).loopcnt = s.loopcnt := rfl
@[simp] theorem writeStatus_s1 (v : Word) : (writeStatus v s).s1 = s.s1 := rfl
@[simp] theorem writeStatus_s2 (v : Word) : (writeStatus v s).s2 = s.s2 := rfl
@[simp] theorem writeStatus_rb (v : Word) : (writeStatus v s).rb = s.rb := rfl
@[simp] theorem writeStatus_gt (v : Word) : (writeStatus v s).gt = s.gt := rfl
@[simp] theorem writeStatus_trace (v : Word) : (writeStatus v s).trace = s.trace := rfl
@[simp] theorem writeStatus_rst (v : Word) : (writeStatus v s).rst = s.rst := rfl
@[simp] theorem writeStatus_owIn (v : Word) : (writeStatus v s).owIn = s.owIn := rfl
@[simp] theorem writeStatus_rdata (v : Word) : (writeStatus v s).rdata = s.rdata := rfl
@[simp] theorem writeStatus_inputs (v : Word) : (writeStatus v s).inputs = s.inputs := rfl

/-! `raise .ill s` -/
@[simp] theorem raise_ill_busy : (raise .ill s).busy = s.busy := rfl
@[simp] theorem raise_ill_drive : (raise .ill s).drive = s.drive := rfl
@[simp] theorem raise_ill_pres : (raise .ill s).pres = s.pres := rfl
@[simp] theorem raise_ill_pres1 : (raise .ill s).pres1 = s.pres1 := rfl
@[simp] theorem raise_ill_pres2 : (raise .ill s).pres2 = s.pres2 := rfl
@[simp] theorem raise_ill_pres3 : (raise .ill s).pres3 = s.pres3 := rfl
@[simp] theorem raise_ill_minus : (raise .ill s).minus = s.minus := rfl
@[simp] theorem raise_ill_errIll : (raise .ill s).errIll = true := rfl
@[simp] theorem raise_ill_errOvr : (raise .ill s).errOvr = s.errOvr := rfl
@[simp] theorem raise_ill_seq : (raise .ill s).seq = s.seq := rfl
@[simp] theorem raise_ill_data : (raise .ill s).data = s.data := rfl
@[simp] theorem raise_ill_tempInt : (raise .ill s).tempInt = s.tempInt := rfl
@[simp] theorem raise_ill_tempFrac : (raise .ill s).tempFrac = s.tempFrac := rfl
@[simp] theorem raise_ill_tempRaw : (raise .ill s).tempRaw = s.tempRaw := rfl
@[simp] theorem raise_ill_sp : (raise .ill s).sp = s.sp := rfl
@[simp] theorem raise_ill_tb : (raise .ill s).tb = s.tb := rfl
@[simp] theorem raise_ill_pend : (raise .ill s).pend = s.pend := rfl
@[simp] theorem raise_ill_pcmd : (raise .ill s).pcmd = s.pcmd := rfl
@[simp] theorem raise_ill_mp : (raise .ill s).mp = s.mp := rfl
@[simp] theorem raise_ill_wtgt : (raise .ill s).wtgt = s.wtgt := rfl
@[simp] theorem raise_ill_shift : (raise .ill s).shift = s.shift := rfl
@[simp] theorem raise_ill_bitcnt : (raise .ill s).bitcnt = s.bitcnt := rfl
@[simp] theorem raise_ill_bytecnt : (raise .ill s).bytecnt = s.bytecnt := rfl
@[simp] theorem raise_ill_loopcnt : (raise .ill s).loopcnt = s.loopcnt := rfl
@[simp] theorem raise_ill_s1 : (raise .ill s).s1 = s.s1 := rfl
@[simp] theorem raise_ill_s2 : (raise .ill s).s2 = s.s2 := rfl
@[simp] theorem raise_ill_rb : (raise .ill s).rb = s.rb := rfl
@[simp] theorem raise_ill_gt : (raise .ill s).gt = s.gt := rfl
@[simp] theorem raise_ill_trace : (raise .ill s).trace = s.trace := rfl
@[simp] theorem raise_ill_rst : (raise .ill s).rst = s.rst := rfl
@[simp] theorem raise_ill_owIn : (raise .ill s).owIn = s.owIn := rfl
@[simp] theorem raise_ill_rdata : (raise .ill s).rdata = s.rdata := rfl
@[simp] theorem raise_ill_inputs : (raise .ill s).inputs = s.inputs := rfl

/-! `raise .ovr s` -/
@[simp] theorem raise_ovr_busy : (raise .ovr s).busy = s.busy := rfl
@[simp] theorem raise_ovr_drive : (raise .ovr s).drive = s.drive := rfl
@[simp] theorem raise_ovr_pres : (raise .ovr s).pres = s.pres := rfl
@[simp] theorem raise_ovr_pres1 : (raise .ovr s).pres1 = s.pres1 := rfl
@[simp] theorem raise_ovr_pres2 : (raise .ovr s).pres2 = s.pres2 := rfl
@[simp] theorem raise_ovr_pres3 : (raise .ovr s).pres3 = s.pres3 := rfl
@[simp] theorem raise_ovr_minus : (raise .ovr s).minus = s.minus := rfl
@[simp] theorem raise_ovr_errIll : (raise .ovr s).errIll = s.errIll := rfl
@[simp] theorem raise_ovr_errOvr : (raise .ovr s).errOvr = true := rfl
@[simp] theorem raise_ovr_seq : (raise .ovr s).seq = s.seq := rfl
@[simp] theorem raise_ovr_data : (raise .ovr s).data = s.data := rfl
@[simp] theorem raise_ovr_tempInt : (raise .ovr s).tempInt = s.tempInt := rfl
@[simp] theorem raise_ovr_tempFrac : (raise .ovr s).tempFrac = s.tempFrac := rfl
@[simp] theorem raise_ovr_tempRaw : (raise .ovr s).tempRaw = s.tempRaw := rfl
@[simp] theorem raise_ovr_sp : (raise .ovr s).sp = s.sp := rfl
@[simp] theorem raise_ovr_tb : (raise .ovr s).tb = s.tb := rfl
@[simp] theorem raise_ovr_pend : (raise .ovr s).pend = s.pend := rfl
@[simp] theorem raise_ovr_pcmd : (raise .ovr s).pcmd = s.pcmd := rfl
@[simp] theorem raise_ovr_mp : (raise .ovr s).mp = s.mp := rfl
@[simp] theorem raise_ovr_wtgt : (raise .ovr s).wtgt = s.wtgt := rfl
@[simp] theorem raise_ovr_shift : (raise .ovr s).shift = s.shift := rfl
@[simp] theorem raise_ovr_bitcnt : (raise .ovr s).bitcnt = s.bitcnt := rfl
@[simp] theorem raise_ovr_bytecnt : (raise .ovr s).bytecnt = s.bytecnt := rfl
@[simp] theorem raise_ovr_loopcnt : (raise .ovr s).loopcnt = s.loopcnt := rfl
@[simp] theorem raise_ovr_s1 : (raise .ovr s).s1 = s.s1 := rfl
@[simp] theorem raise_ovr_s2 : (raise .ovr s).s2 = s.s2 := rfl
@[simp] theorem raise_ovr_rb : (raise .ovr s).rb = s.rb := rfl
@[simp] theorem raise_ovr_gt : (raise .ovr s).gt = s.gt := rfl
@[simp] theorem raise_ovr_trace : (raise .ovr s).trace = s.trace := rfl
@[simp] theorem raise_ovr_rst : (raise .ovr s).rst = s.rst := rfl
@[simp] theorem raise_ovr_owIn : (raise .ovr s).owIn = s.owIn := rfl
@[simp] theorem raise_ovr_rdata : (raise .ovr s).rdata = s.rdata := rfl
@[simp] theorem raise_ovr_inputs : (raise .ovr s).inputs = s.inputs := rfl

/-! `sample .s1 s` -/
@[simp] theorem sample_s1_busy : (sample .s1 s).busy = s.busy := rfl
@[simp] theorem sample_s1_drive : (sample .s1 s).drive = s.drive := rfl
@[simp] theorem sample_s1_pres : (sample .s1 s).pres = s.pres := rfl
@[simp] theorem sample_s1_pres1 : (sample .s1 s).pres1 = s.pres1 := rfl
@[simp] theorem sample_s1_pres2 : (sample .s1 s).pres2 = s.pres2 := rfl
@[simp] theorem sample_s1_pres3 : (sample .s1 s).pres3 = s.pres3 := rfl
@[simp] theorem sample_s1_minus : (sample .s1 s).minus = s.minus := rfl
@[simp] theorem sample_s1_errIll : (sample .s1 s).errIll = s.errIll := rfl
@[simp] theorem sample_s1_errOvr : (sample .s1 s).errOvr = s.errOvr := rfl
@[simp] theorem sample_s1_seq : (sample .s1 s).seq = s.seq := rfl
@[simp] theorem sample_s1_data : (sample .s1 s).data = s.data := rfl
@[simp] theorem sample_s1_tempInt : (sample .s1 s).tempInt = s.tempInt := rfl
@[simp] theorem sample_s1_tempFrac : (sample .s1 s).tempFrac = s.tempFrac := rfl
@[simp] theorem sample_s1_tempRaw : (sample .s1 s).tempRaw = s.tempRaw := rfl
@[simp] theorem sample_s1_sp : (sample .s1 s).sp = s.sp := rfl
@[simp] theorem sample_s1_tb : (sample .s1 s).tb = s.tb := rfl
@[simp] theorem sample_s1_pend : (sample .s1 s).pend = s.pend := rfl
@[simp] theorem sample_s1_pcmd : (sample .s1 s).pcmd = s.pcmd := rfl
@[simp] theorem sample_s1_mp : (sample .s1 s).mp = s.mp := rfl
@[simp] theorem sample_s1_wtgt : (sample .s1 s).wtgt = s.wtgt := rfl
@[simp] theorem sample_s1_shift : (sample .s1 s).shift = s.shift := rfl
@[simp] theorem sample_s1_bitcnt : (sample .s1 s).bitcnt = s.bitcnt := rfl
@[simp] theorem sample_s1_bytecnt : (sample .s1 s).bytecnt = s.bytecnt := rfl
@[simp] theorem sample_s1_loopcnt : (sample .s1 s).loopcnt = s.loopcnt := rfl
@[simp] theorem sample_s1_s1 : (sample .s1 s).s1 = s.owIn := rfl
@[simp] theorem sample_s1_s2 : (sample .s1 s).s2 = s.s2 := rfl
@[simp] theorem sample_s1_rb : (sample .s1 s).rb = s.rb := rfl
@[simp] theorem sample_s1_gt : (sample .s1 s).gt = s.gt := rfl
@[simp] theorem sample_s1_trace : (sample .s1 s).trace = s.trace ++ [.smp s.gt s.owIn] := rfl
@[simp] theorem sample_s1_rst : (sample .s1 s).rst = s.rst := rfl
@[simp] theorem sample_s1_owIn : (sample .s1 s).owIn = s.owIn := rfl
@[simp] theorem sample_s1_rdata : (sample .s1 s).rdata = s.rdata := rfl
@[simp] theorem sample_s1_inputs : (sample .s1 s).inputs = s.inputs := rfl

/-! `sample .s2 s` -/
@[simp] theorem sample_s2_busy : (sample .s2 s).busy = s.busy := rfl
@[simp] theorem sample_s2_drive : (sample .s2 s).drive = s.drive := rfl
@[simp] theorem sample_s2_pres : (sample .s2 s).pres = s.pres := rfl
@[simp] theorem sample_s2_pres1 : (sample .s2 s).pres1 = s.pres1 := rfl
@[simp] theorem sample_s2_pres2 : (sample .s2 s).pres2 = s.pres2 := rfl
@[simp] theorem sample_s2_pres3 : (sample .s2 s).pres3 = s.pres3 := rfl
@[simp] theorem sample_s2_minus : (sample .s2 s).minus = s.minus := rfl
@[simp] theorem sample_s2_errIll : (sample .s2 s).errIll = s.errIll := rfl
@[simp] theorem sample_s2_errOvr : (sample .s2 s).errOvr = s.errOvr := rfl
@[simp] theorem sample_s2_seq : (sample .s2 s).seq = s.seq := rfl
@[simp] theorem sample_s2_data : (sample .s2 s).data = s.data := rfl
@[simp] theorem sample_s2_tempInt : (sample .s2 s).tempInt = s.tempInt := rfl
@[simp] theorem sample_s2_tempFrac : (sample .s2 s).tempFrac = s.tempFrac := rfl
@[simp] theorem sample_s2_tempRaw : (sample .s2 s).tempRaw = s.tempRaw := rfl
@[simp] theorem sample_s2_sp : (sample .s2 s).sp = s.sp := rfl
@[simp] theorem sample_s2_tb : (sample .s2 s).tb = s.tb := rfl
@[simp] theorem sample_s2_pend : (sample .s2 s).pend = s.pend := rfl
@[simp] theorem sample_s2_pcmd : (sample .s2 s).pcmd = s.pcmd := rfl
@[simp] theorem sample_s2_mp : (sample .s2 s).mp = s.mp := rfl
@[simp] theorem sample_s2_wtgt : (sample .s2 s).wtgt = s.wtgt := rfl
@[simp] theorem sample_s2_shift : (sample .s2 s).shift = s.shift := rfl
@[simp] theorem sample_s2_bitcnt : (sample .s2 s).bitcnt = s.bitcnt := rfl
@[simp] theorem sample_s2_bytecnt : (sample .s2 s).bytecnt = s.bytecnt := rfl
@[simp] theorem sample_s2_loopcnt : (sample .s2 s).loopcnt = s.loopcnt := rfl
@[simp] theorem sample_s2_s1 : (sample .s2 s).s1 = s.s1 := rfl
@[simp] theorem sample_s2_s2 : (sample .s2 s).s2 = s.owIn := rfl
@[simp] theorem sample_s2_rb : (sample .s2 s).rb = s.rb := rfl
@[simp] theorem sample_s2_gt : (sample .s2 s).gt = s.gt := rfl
@[simp] theorem sample_s2_trace : (sample .s2 s).trace = s.trace ++ [.smp s.gt s.owIn] := rfl
@[simp] theorem sample_s2_rst : (sample .s2 s).rst = s.rst := rfl
@[simp] theorem sample_s2_owIn : (sample .s2 s).owIn = s.owIn := rfl
@[simp] theorem sample_s2_rdata : (sample .s2 s).rdata = s.rdata := rfl
@[simp] theorem sample_s2_inputs : (sample .s2 s).inputs = s.inputs := rfl

/-! `sample .rb s` -/
@[simp] theorem sample_rb_busy : (sample .rb s).busy = s.busy := rfl
@[simp] theorem sample_rb_drive : (sample .rb s).drive = s.drive := rfl
@[simp] theorem sample_rb_pres : (sample .rb s).pres = s.pres := rfl
@[simp] theorem sample_rb_pres1 : (sample .rb s).pres1 = s.pres1 := rfl
@[simp] theorem sample_rb_pres2 : (sample .rb s).pres2 = s.pres2 := rfl
@[simp] theorem sample_rb_pres3 : (sample .rb s).pres3 = s.pres3 := rfl
@[simp] theorem sample_rb_minus : (sample .rb s).minus = s.minus := rfl
@[simp] theorem sample_rb_errIll : (sample .rb s).errIll = s.errIll := rfl
@[simp] theorem sample_rb_errOvr : (sample .rb s).errOvr = s.errOvr := rfl
@[simp] theorem sample_rb_seq : (sample .rb s).seq = s.seq := rfl
@[simp] theorem sample_rb_data : (sample .rb s).data = s.data := rfl
@[simp] theorem sample_rb_tempInt : (sample .rb s).tempInt = s.tempInt := rfl
@[simp] theorem sample_rb_tempFrac : (sample .rb s).tempFrac = s.tempFrac := rfl
@[simp] theorem sample_rb_tempRaw : (sample .rb s).tempRaw = s.tempRaw := rfl
@[simp] theorem sample_rb_sp : (sample .rb s).sp = s.sp := rfl
@[simp] theorem sample_rb_tb : (sample .rb s).tb = s.tb := rfl
@[simp] theorem sample_rb_pend : (sample .rb s).pend = s.pend := rfl
@[simp] theorem sample_rb_pcmd : (sample .rb s).pcmd = s.pcmd := rfl
@[simp] theorem sample_rb_mp : (sample .rb s).mp = s.mp := rfl
@[simp] theorem sample_rb_wtgt : (sample .rb s).wtgt = s.wtgt := rfl
@[simp] theorem sample_rb_shift : (sample .rb s).shift = s.shift := rfl
@[simp] theorem sample_rb_bitcnt : (sample .rb s).bitcnt = s.bitcnt := rfl
@[simp] theorem sample_rb_bytecnt : (sample .rb s).bytecnt = s.bytecnt := rfl
@[simp] theorem sample_rb_loopcnt : (sample .rb s).loopcnt = s.loopcnt := rfl
@[simp] theorem sample_rb_s1 : (sample .rb s).s1 = s.s1 := rfl
@[simp] theorem sample_rb_s2 : (sample .rb s).s2 = s.s2 := rfl
@[simp] theorem sample_rb_rb : (sample .rb s).rb = s.owIn := rfl
@[simp] theorem sample_rb_gt : (sample .rb s).gt = s.gt := rfl
@[simp] theorem sample_rb_trace : (sample .rb s).trace = s.trace ++ [.smp s.gt s.owIn] := rfl
@[simp] theorem sample_rb_rst : (sample .rb s).rst = s.rst := rfl
@[simp] theorem sample_rb_owIn : (sample .rb s).owIn = s.owIn := rfl
@[simp] theorem sample_rb_rdata : (sample .rb s).rdata = s.rdata := rfl
@[simp] theorem sample_rb_inputs : (sample .rb s).inputs = s.inputs := rfl

/-! `setPres f s` -/
@[simp] theorem setPres_busy (f : PresFlag) : (setPres f s).busy = s.busy := by cases f <;> rfl
@[simp] theorem setPres_drive (f : PresFlag) : (setPres f s).drive = s.drive := by cases f <;> rfl
@[simp] theorem setPres_minus (f : PresFlag) : (setPres f s).minus = s.minus := by cases f <;> rfl
@[simp] theorem setPres_errIll (f : PresFlag) : (setPres f s).errIll = s.errIll := by cases f <;> rfl
@[simp] theorem setPres_errOvr (f : PresFlag) : (setPres f s).errOvr = s.errOvr := by cases f <;> rfl
@[simp] theorem setPres_seq (f : PresFlag) : (setPres f s).seq = s.seq := by cases f <;> rfl
@[simp] theorem setPres_data (f : PresFlag) : (setPres f s).data = s.data := by cases f <;> rfl
@[simp] theorem setPres_tempInt (f : PresFlag) : (setPres f s).tempInt = s.tempInt := by cases f <;> rfl
@[simp] theorem setPres_tempFrac (f : PresFlag) : (setPres f s).tempFrac = s.tempFrac := by cases f <;> rfl
@[simp] theorem setPres_tempRaw (f : PresFlag) : (setPres f s).tempRaw = s.tempRaw := by cases f <;> rfl
@[simp] theorem setPres_sp (f : PresFlag) : (setPres f s).sp = s.sp := by cases f <;> rfl
@[simp] theorem setPres_tb (f : PresFlag) : (setPres f s).tb = s.tb := by cases f <;> rfl
@[simp] theorem setPres_pend (f : PresFlag) : (setPres f s).pend = s.pend := by cases f <;> rfl
@[simp] theorem setPres_pcmd (f : PresFlag) : (setPres f s).pcmd = s.pcmd := by cases f <;> rfl
@[simp] theorem setPres_mp (f : PresFlag) : (setPres f s).mp = s.mp := by cases f <;> rfl
@[simp] theorem setPres_wtgt (f : PresFlag) : (setPres f s).wtgt = s.wtgt := by cases f <;> rfl
@[simp] theorem setPres_shift (f : PresFlag) : (setPres f s).shift = s.shift := by cases f <;> rfl
@[simp] theorem setPres_bitcnt (f : PresFlag) : (setPres f s).bitcnt = s.bitcnt := by cases f <;> rfl
@[simp] theorem setPres_bytecnt (f : PresFlag) : (setPres f s).bytecnt = s.bytecnt := by cases f <;> rfl
@[simp] theorem setPres_loopcnt (f : PresFlag) : (setPres f s).loopcnt = s.loopcnt := by cases f <;> rfl
@[simp] theorem setPres_s1 (f : PresFlag) : (setPres f s).s1 = s.s1 := by cases f <;> rfl
@[simp] theorem setPres_s2 (f : PresFlag) : (setPres f s).s2 = s.s2 := by cases f <;> rfl
@[simp] theorem setPres_rb (f : PresFlag) : (setPres f s).rb = s.rb := by cases f <;> rfl
@[simp] theorem setPres_gt (f : PresFlag) : (setPres f s).gt = s.gt := by cases f <;> rfl
@[simp] theorem setPres_trace (f : PresFlag) : (setPres f s).trace = s.trace := by cases f <;> rfl
@[simp] theorem setPres_rst (f : PresFlag) : (setPres f s).rst = s.rst := by cases f <;> rfl
@[simp] theorem setPres_owIn (f : PresFlag) : (setPres f s).owIn = s.owIn := by cases f <;> rfl
@[simp] theorem setPres_rdata (f : PresFlag) : (setPres f s).rdata = s.rdata := by cases f <;> rfl
@[simp] theorem setPres_inputs (f : PresFlag) : (setPres f s).inputs = s.inputs := by cases f <;> rfl

/-! `underReset s` keeps the outside's fields. -/
@[simp] theorem underReset_rst : (underReset s).rst = s.rst := rfl
@[simp] theorem underReset_owIn : (underReset s).owIn = s.owIn := rfl
@[simp] theorem underReset_rdata : (underReset s).rdata = s.rdata := rfl
@[simp] theorem underReset_inputs : (underReset s).inputs = s.inputs := rfl

end Sys2Proof.Machine
end

