-- ==== Sys2Proof/Laws/Ops.lean ====
section
/-! SUPPORT. What each shared operation can do, said once. -/

namespace Sys2Proof.Machine

/-! ### Running a micro-program -/

@[simp] theorem run_done (p : Params) (s : State) : run p .done s = complete s := rfl

@[simp] theorem run_op (p : Params) (o : MicroOp) (k : Prog) (s : State) : run p (.op o k) s = run p k (applyOp p o s) := rfl

@[simp] theorem run_wire (p : Params) (b : Byte) (k : Prog) (s : State) :
    run p (.wire b k) s = { s with mp := .atWire b k } := rfl

@[simp] theorem run_ifPres (p : Params) (f : PresFlag) (y n : Prog) (s : State) :
    run p (.ifPres f y n) s = if presFlag f s then run p y s else run p n s := rfl

/-- A WAIT whose target is not 0 holds (R100). -/
theorem run_wait_holds {p : Params} {n : Count} {k : Prog} {s : State} (h : (n.value s).toNat + p.waitExtra ≠ 0) :
    run p (.wait n k) s = { startWait p (n.value s) s with mp := .waiting k } := by
  rw [run]; exact if_neg h

/-- A WAIT whose target is 0 completes at once (R100). -/
theorem run_wait_zero {p : Params} {n : Count} {k : Prog} {s : State} (h : (n.value s).toNat + p.waitExtra = 0) :
    run p (.wait n k) s = run p k (startWait p (n.value s) s) := by
  rw [run]; exact if_pos h

/-- What `run` can do: where `R` goes with what is left from each micro-op to the next, `Q` holds where it stops. -/
theorem run_induction (p : Params) {R : Prog → State → Prop} {Q : State → Prop}
    (hdone : ∀ s, R .done s → Q (complete s))
    (hop : ∀ o k s, R (.op o k) s → R k (applyOp p o s))
    (hzero : ∀ n k s, R (.wait n k) s → R k (startWait p (n.value s) s))
    (hwait : ∀ n k s, R (.wait n k) s → Q { startWait p (n.value s) s with mp := .waiting k })
    (hwire : ∀ b k s, R (.wire b k) s → Q { s with mp := .atWire b k })
    (hyes : ∀ f y n s, R (.ifPres f y n) s → presFlag f s = true → R y s)
    (hno : ∀ f y n s, R (.ifPres f y n) s → presFlag f s = false → R n s) :
    ∀ k s, R k s → Q (run p k s)
  | .done, s, h => hdone s h
  | .op o k, s, h => run_induction p hdone hop hzero hwait hwire hyes hno k _ (hop o k s h)
  | .wait n k, s, h => by
    by_cases h0 : (n.value s).toNat + p.waitExtra = 0
    · rw [run_wait_zero h0]
      exact run_induction p hdone hop hzero hwait hwire hyes hno k _ (hzero n k s h)
    · rw [run_wait_holds h0]
      exact hwait n k s h
  | .wire b k, s, h => hwire b k s h
  | .ifPres f y n, s, h => by
    cases hf : presFlag f s
    · simpa [hf] using run_induction p hdone hop hzero hwait hwire hyes hno n s (hno f y n s h hf)
    · simpa [hf] using run_induction p hdone hop hzero hwait hwire hyes hno y s (hyes f y n s h hf)

/-- No micro-op reads or writes MP. -/
theorem applyOp_mp (p : Params) (o : MicroOp) (s : State) (m : Position) :
    applyOp p o { s with mp := m } = { applyOp p o s with mp := m } := by
  cases o with
  | smp r => cases r <;> rfl
  | setPres f => cases f <;> rfl
  | _ => rfl

/-- Where a micro-program goes does not depend on the position it was at. -/
theorem run_mp (p : Params) : ∀ (k : Prog) (s : State) (m : Position), run p k { s with mp := m } = run p k s
  | .done, _, _ => rfl
  | .op o k, s, m => by rw [run_op, run_op, applyOp_mp, run_mp p k]
  | .wait n k, s, m => by
    have hv : n.value { s with mp := m } = n.value s := by
      cases n with
      | ticks n => rfl
      | byBit src a b => cases src <;> rfl
    by_cases h : (n.value s).toNat + p.waitExtra = 0
    · rw [run_wait_zero (by rw [hv]; exact h), run_wait_zero h, hv]
      exact run_mp p k (startWait p (n.value s) s) m
    · rw [run_wait_holds (by rw [hv]; exact h), run_wait_holds h, hv]
      rfl
  | .wire _ _, _, _ => rfl
  | .ifPres f y n, s, m => by
    have hf : presFlag f { s with mp := m } = presFlag f s := by cases f <;> rfl
    rw [run_ifPres, run_ifPres, hf, run_mp p y, run_mp p n]

/-- The fields no micro-op writes: the ports, the inputs, PEND, PCMD, BUSY, MP, GT and WTGT. -/
theorem applyOp_frame (p : Params) (o : MicroOp) (s : State) :
    (applyOp p o s).rst = s.rst ∧ (applyOp p o s).inputs = s.inputs ∧ (applyOp p o s).owIn = s.owIn ∧
    (applyOp p o s).rdata = s.rdata ∧ (applyOp p o s).pend = s.pend ∧ (applyOp p o s).pcmd = s.pcmd ∧
    (applyOp p o s).busy = s.busy ∧ (applyOp p o s).mp = s.mp ∧ (applyOp p o s).gt = s.gt ∧
    (applyOp p o s).tb = s.tb ∧ (applyOp p o s).wtgt = s.wtgt := by
  cases o with
  | smp r => cases r <;> simp [applyOp]
  | setPres f => cases f <;> simp [applyOp]
  | _ => simp [applyOp]

/-- `run` keeps the ports, the inputs and GT, and never sets BUSY or PEND; TB is kept or restarted. -/
theorem run_frame (p : Params) (k : Prog) (s : State) :
    (run p k s).rst = s.rst ∧ (run p k s).inputs = s.inputs ∧ (run p k s).owIn = s.owIn ∧ (run p k s).rdata = s.rdata ∧
    (run p k s).gt = s.gt ∧ ((run p k s).busy = true → s.busy = true) ∧ ((run p k s).pend = true → s.pend = true) ∧
    ((run p k s).tb = s.tb ∨ (run p k s).tb = 0) := by
  refine run_induction p
    (R := fun _ t => t.rst = s.rst ∧ t.inputs = s.inputs ∧ t.owIn = s.owIn ∧ t.rdata = s.rdata ∧ t.gt = s.gt ∧
      (t.busy = true → s.busy = true) ∧ (t.pend = true → s.pend = true) ∧ (t.tb = s.tb ∨ t.tb = 0))
    (Q := fun t => t.rst = s.rst ∧ t.inputs = s.inputs ∧ t.owIn = s.owIn ∧ t.rdata = s.rdata ∧ t.gt = s.gt ∧
      (t.busy = true → s.busy = true) ∧ (t.pend = true → s.pend = true) ∧ (t.tb = s.tb ∨ t.tb = 0))
    ?_ ?_ ?_ ?_ ?_ ?_ ?_ k s ?_
  · intro t h; simp_all
  · intro o k t h
    obtain ⟨a, b, c, d, e, f, g, -, i, j, -⟩ := applyOp_frame p o t
    simpa only [a, b, c, d, e, g, i, j] using h
  · intro n k t h; simp_all
  · intro n k t h; simp_all
  · intro b k t h; exact h
  · intro f y n t h _; exact h
  · intro f y n t h _; exact h
  · simp

/-! ### Ticks of a running micro-program -/

/-- A tick that does not reach the target only counts (R100). -/
theorem resume_holds {p : Params} {s : State} {k : Prog} (hm : s.mp = .waiting k) (h : s.tb.toNat < s.wtgt) :
    resume p s = s := by
  simp [resume, hm, Nat.not_le.mpr h]

/-- A tick that reaches the target completes the WAIT, and the micro-program goes on in the same step (R44(c), (d)). -/
theorem resume_completes {p : Params} {s : State} {k : Prog} (hm : s.mp = .waiting k) (h : s.wtgt ≤ s.tb.toNat) :
    resume p s = run p k s := by
  simp [resume, hm, h]

/-- With no WAIT in progress nothing is resumed. -/
theorem resume_idle {p : Params} {s : State} (hm : ∀ k, s.mp ≠ .waiting k) : resume p s = s := by
  unfold resume
  split <;> simp_all

theorem coast_add (p : Params) (lv : Nat → Bool) (m n : Nat) (s : State) :
    coast p lv (m + n) s = coast p lv n (coast p lv m s) := by
  induction m generalizing s with
  | zero => simp [coast]
  | succ m ih => rw [Nat.succ_add]; exact ih _

/-! ### The accept step and host accesses -/

/-- The three cases of R200. -/
theorem acceptStep_cases (w : Word) (s : State) :
    (s.busy = true ∧ acceptStep w s = raise .ovr s) ∨
    (s.busy = false ∧ (∀ i, decode w ≠ .ok i) ∧ acceptStep w s = raise .ill s) ∨
    ∃ i, s.busy = false ∧ decode w = .ok i ∧ acceptStep w s = accept w i s := by
  unfold acceptStep
  cases hb : s.busy
  · cases hd : decode w <;> simp
  · simp

/-- The accesses that are defined, and the offset they name (R64). -/
theorem accessOffset_ok {p : Params} {addr size off : Nat} :
    accessOffset p addr size = .ok off ↔
      size = 4 ∧ p.base ≤ addr ∧ off = addr - p.base ∧ off < 0x40 ∧ off % 4 = 0 := by
  unfold accessOffset
  by_cases h1 : addr < p.base
  · simp [h1]
  · by_cases h2 : size = 4
    · by_cases h3 : addr - p.base < 64
      · by_cases h4 : (addr - p.base) % 4 = 0
        · simp [h1, h2, h3, h4, Access.wordSized, Access.inWindow, Access.aligned, Config.windowBytes]; omega
        · simp [h1, h2, h3, h4, Access.wordSized, Access.inWindow, Access.aligned, Config.windowBytes]; omega
      · simp [h1, h2, h3, Access.wordSized, Access.inWindow, Config.windowBytes]; omega
    · simp [h1, h2, Access.wordSized]

/-- Why an access is refused: one of R64's three. -/
theorem accessOffset_error {p : Params} {addr size : Nat} {r : Refusal} (h : accessOffset p addr size = .error r) :
    r = .accessWidth ∨ r = .accessMisaligned ∨ r = .accessOutsideWindow := by
  unfold accessOffset at h
  simp only at h
  split_ifs at h <;> simp_all

/-- An aligned offset of the window, as a bus address. -/
theorem accessOffset_base_add {p : Params} {a : Nat} (h : a < 0x40) (h4 : a % 4 = 0) :
    accessOffset p (p.base + a) 4 = .ok a := by
  rw [accessOffset_ok]; omega

/-- What a write of a register can do (R63). -/
theorem writeReg_cases (r : Reg) (v : Word) (s : State) :
    (r = .cmd ∧ writeReg r v s = acceptStep v s) ∨ (r = .status ∧ writeReg r v s = writeStatus v s) ∨
    (r ≠ .cmd ∧ r ≠ .status ∧ writeReg r v s = s) := by
  cases r <;> simp [writeReg]

/-- Offset 0 is CMD and no other offset is (R61). -/
theorem regAt_cmd {a : Nat} : regAt a = .cmd ↔ a = 0 := by
  unfold regAt; split <;> simp_all

/-- Offset 4 is STATUS and no other offset is (R61). -/
theorem regAt_status {a : Nat} : regAt a = .status ↔ a = 4 := by
  unfold regAt; split <;> simp_all

/-! ### Reset -/

theorem settle_of_not_rst {s : State} (h : s.rst = false) : settle s = s := by simp [settle, h]

theorem settle_of_rst {s : State} (h : s.rst = true) : settle s = underReset s := by simp [settle, h]

end Sys2Proof.Machine
end

