-- ==== Sys2Proof/Laws/PerInstr.lean ====
section
/-! SUPPORT. Facts stated of every instruction as syntax, one lemma per constructor. -/

namespace Sys2Proof.Laws

/-- The encoding of `i` is a word that hits the row of its own mnemonic in R83's table, or `i` is one of R87's three bytes. -/
def RowMatch.Statement (i : Instr) : Prop :=
  match encode i with
  | .cmd w => ∃ r ∈ cmdRows, r.mnemonic = i.mnemonic ∧ r.hit w = true
  | .wire b => (i.mnemonic, b) ∈ [("SKIP_ROM_BYTE", (0xCC : Byte)), ("CONVERT_T_BYTE", 0x44), ("READ_SCRATCHPAD_BYTE", 0xBE)]

/-- A word whose bits outside the operand are the row's, and whose operand lies in the row's free bits, hits the row. -/
theorem hit_of_or {r : CmdRow} {x m : Word} (hx : x &&& r.mask = 0) (hm : m &&& r.mask = r.matchBits) :
    r.hit (x ||| m) = true := by
  have e : (x ||| m) &&& r.mask = (x &&& r.mask) ||| (m &&& r.mask) := by
    ext i hi; simp [Bool.and_or_distrib_right]
  simp [CmdRow.hit, e, hx, hm]

theorem RowMatch.init : RowMatch.Statement .init := ⟨_, .head _, rfl, rfl⟩

theorem RowMatch.resetPulse : RowMatch.Statement .resetPulse := ⟨_, .tail _ (.head _), rfl, rfl⟩

theorem RowMatch.writeBit (b : Bool) : RowMatch.Statement (.writeBit b) :=
  ⟨⟨"WRITE_BIT", 0x00000003, 0xFFFFFEFF⟩, by decide, rfl, by cases b <;> decide⟩

theorem RowMatch.readBit : RowMatch.Statement .readBit := ⟨⟨"READ_BIT", 0x00000004, 0xFFFFFFFF⟩, by decide, rfl, rfl⟩

theorem RowMatch.writeByte (v : Byte) : RowMatch.Statement (.writeByte v) := by
  refine ⟨⟨"WRITE_BYTE", 0x00000005, 0xFFFF00FF⟩, by decide, rfl, hit_of_or ?_ (by decide)⟩
  ext i hi
  rcases Nat.lt_or_ge i 8 with h | h
  · simp [h]
  · rcases Nat.lt_or_ge i 16 with h' | h'
    · interval_cases i <;> simp
    · simp [BitVec.getLsbD_of_ge v (i - 8) (by omega)]

theorem RowMatch.readByte : RowMatch.Statement .readByte := ⟨⟨"READ_BYTE", 0x00000006, 0xFFFFFFFF⟩, by decide, rfl, rfl⟩

theorem RowMatch.delay (n : Half) : RowMatch.Statement (.delay n) := by
  refine ⟨⟨"DELAY", 0x00000007, 0x0000FFFF⟩, by decide, rfl, hit_of_or ?_ (by decide)⟩
  ext i hi
  rcases Nat.lt_or_ge i 16 with h | h
  · simp [h]
  · interval_cases i <;> simp

theorem RowMatch.readTemperature : RowMatch.Statement .readTemperature :=
  ⟨⟨"READ_TEMPERATURE", 0x00000008, 0xFFFFFFFF⟩, by decide, rfl, rfl⟩

theorem RowMatch.decode : RowMatch.Statement .decode := ⟨⟨"DECODE", 0x00000009, 0xFFFFFFFF⟩, by decide, rfl, rfl⟩

theorem RowMatch.skipRomByte : RowMatch.Statement .skipRomByte := by simp [RowMatch.Statement, encode, Instr.mnemonic]

theorem RowMatch.convertTByte : RowMatch.Statement .convertTByte := by simp [RowMatch.Statement, encode, Instr.mnemonic]

theorem RowMatch.readScratchpadByte : RowMatch.Statement .readScratchpadByte := by
  simp [RowMatch.Statement, encode, Instr.mnemonic]

end Sys2Proof.Laws
end

