-- ==== Sys2Proof/Laws/Programs.lean ====
section
/-! SUPPORT. What the static checks of Safety.lean say of each procedure of the micro-programs. -/

namespace Sys2Proof.Machine

variable (p : Params) (k : Prog) (d : Bool) (b : BitSource) (v : Byte)

/-! ### The line: every procedure leaves it released (R119) -/

@[simp] theorem lineSafe_resetPresence : (resetPresence p k).lineSafe d = k.lineSafe false := by
  simp [resetPresence, Prog.lineSafe]

@[simp] theorem lineSafe_writeBit : (writeBit p b k).lineSafe d = k.lineSafe false := by
  simp [writeBit, Prog.lineSafe]

@[simp] theorem lineSafe_readBit : (readBit p k).lineSafe d = k.lineSafe false := by
  simp [readBit, Prog.lineSafe]

theorem lineSafe_slotsOut (n : Nat) : (slotsOut p n k).lineSafe false = k.lineSafe false := by
  induction n with
  | zero => rfl
  | succ n ih => simp [slotsOut, Prog.lineSafe, ih]

theorem lineSafe_slotsIn (n : Nat) : (slotsIn p n k).lineSafe false = k.lineSafe false := by
  induction n with
  | zero => rfl
  | succ n ih => simp [slotsIn, Prog.lineSafe, ih]

@[simp] theorem lineSafe_writeByte : (writeByte p v k).lineSafe d = k.lineSafe false := by
  simp [writeByte, slotsOut, Prog.lineSafe]

@[simp] theorem lineSafe_readByte : (readByte p k).lineSafe d = k.lineSafe false := by
  simp [readByte, slotsIn, Prog.lineSafe]

theorem lineSafe_scratchpadReads (n : Nat) : (scratchpadReads p n k).lineSafe false = k.lineSafe false := by
  induction n with
  | zero => rfl
  | succ n ih => simp [scratchpadReads, Prog.lineSafe, ih]

theorem lineSafe_convertWaits (n : Nat) : (convertWaits p n k).lineSafe d = k.lineSafe d := by
  induction n with
  | zero => rfl
  | succ n ih => simp [convertWaits, Prog.lineSafe, ih]

/-! ### The decoded fields: only the scratchpad's bytes make them stale (R163) -/

variable (f : Bool)

@[simp] theorem settles_resetPresence : (resetPresence p k).settles f = k.settles f := rfl

@[simp] theorem settles_writeBit : (writeBit p b k).settles f = k.settles f := rfl

@[simp] theorem settles_readBit : (readBit p k).settles f = k.settles f := rfl

@[simp] theorem settles_writeByte : (writeByte p v k).settles f = k.settles f := rfl

@[simp] theorem settles_readByte : (readByte p k).settles f = k.settles f := rfl

theorem settles_convertWaits (n : Nat) : (convertWaits p n k).settles f = k.settles f := by
  induction n with
  | zero => rfl
  | succ n ih => simpa [convertWaits, Prog.settles] using ih

/-! ### The counters (R45) -/

variable (i j l : Nat)

@[simp] theorem countsIn_resetPresence : (resetPresence p k).countsIn i j l = k.countsIn i j l := rfl

@[simp] theorem countsIn_writeBit : (writeBit p b k).countsIn i j l = k.countsIn i j l := rfl

@[simp] theorem countsIn_readBit : (readBit p k).countsIn i j l = k.countsIn i j l := rfl

@[simp] theorem countsIn_writeByte : (writeByte p v k).countsIn i j l = k.countsIn 8 j l := by
  simp [writeByte, slotsOut, Prog.countsIn]

@[simp] theorem countsIn_readByte : (readByte p k).countsIn i j l = k.countsIn 8 j l := by
  simp [readByte, slotsIn, Prog.countsIn]

theorem countsIn_convertWaits (n : Nat) (h : l + n ≤ 100) : (convertWaits p n k).countsIn i j l = k.countsIn i j (l + n) := by
  induction n generalizing l with
  | zero => rfl
  | succ n ih =>
    have hl : l < 100 := by omega
    simp [convertWaits, Prog.countsIn, hl, ih (l + 1) (by omega), Nat.add_assoc, Nat.add_comm 1 n]

/-! ### The error bits: no procedure clears them (R39) -/

@[simp] theorem keepsErrors_resetPresence : (resetPresence p k).keepsErrors = k.keepsErrors := rfl

@[simp] theorem keepsErrors_writeBit : (writeBit p b k).keepsErrors = k.keepsErrors := rfl

@[simp] theorem keepsErrors_readBit : (readBit p k).keepsErrors = k.keepsErrors := rfl

@[simp] theorem keepsErrors_writeByte : (writeByte p v k).keepsErrors = k.keepsErrors := rfl

@[simp] theorem keepsErrors_readByte : (readByte p k).keepsErrors = k.keepsErrors := rfl

theorem keepsErrors_scratchpadReads (n : Nat) : (scratchpadReads p n k).keepsErrors = k.keepsErrors := by
  induction n with
  | zero => rfl
  | succ n ih => simpa [scratchpadReads, Prog.keepsErrors] using ih

theorem keepsErrors_convertWaits (n : Nat) : (convertWaits p n k).keepsErrors = k.keepsErrors := by
  induction n with
  | zero => rfl
  | succ n ih => simpa [convertWaits, Prog.keepsErrors] using ih

end Sys2Proof.Machine
end

