-- ==== Sys2Proof/Laws/Step.lean ====
section
/-! SUPPORT. What a step can do, said once, and the laws of runs of ticks. -/

namespace Sys2Proof.Machine

/-- Every instruction's start answers a next state: it is a micro-program run with PEND clear, or a wire byte sent. -/
theorem exec_cases (i : Instr) (s : State) :
    (∃ k, exec i s = .next (start Config.params k s)) ∨ (∃ b, exec i s = .next (sendWireByte Config.params b s)) := by
  cases i <;> first | exact .inl ⟨_, rfl⟩ | exact .inr ⟨_, rfl⟩

/-- The micro-program each command starts (R42); a wire byte starts none, it is sent from where the sequencer stands. -/
def commandProg : Instr → Prog
  | .init => initProg
  | .resetPulse => resetPulseProg Config.params
  | .writeBit b => writeBitProg Config.params b
  | .readBit => readBitProg Config.params
  | .writeByte v => writeByteProg Config.params v
  | .readByte => readByteProg Config.params
  | .delay n => delayProg n
  | .readTemperature => readTemperatureProg Config.params
  | .decode => decodeProg
  | .skipRomByte => .done
  | .convertTByte => .done
  | .readScratchpadByte => .done

/-- A decoded command's exec starts its micro-program. -/
theorem exec_command {w : Word} {i : Instr} (h : decode w = .ok i) (s : State) :
    exec i s = .next (start Config.params (commandProg i) s) := by
  obtain ⟨h1, h2, h3⟩ := decode_ne_wire h
  cases i <;> first | rfl | contradiction

/-- A wire byte's exec sends that byte (R87). -/
theorem exec_wire {b : Byte} {i : Instr} (h : decodeWire b = .ok i) (s : State) :
    exec i s = .next (sendWireByte Config.params b s) := by
  rcases decodeWire_cases h with ⟨rfl, rfl⟩ | ⟨rfl, rfl⟩ | ⟨rfl, rfl⟩ <;> rfl

/-- What a step that answers a next state did: nothing (no input), or one input of the outside. -/
theorem step_cases {s s' : State} (h : step s = .next s') :
    (s.inputs = [] ∧ s' = s) ∨
    ∃ e rest, s.inputs = e :: rest ∧ handle e (settle { s with inputs := rest }) = .next s' := by
  unfold step at h
  split at h
  · rename_i hn; cases h; exact .inl ⟨hn, rfl⟩
  · rename_i e rest hc; exact .inr ⟨e, rest, hc, h⟩

/-- A step on an input, the controller not under reset. -/
theorem step_cons {s : State} {e : Event} {rest : List Event} (h : s.inputs = e :: rest) (hr : s.rst = false) :
    step s = handle e { s with inputs := rest } := by
  unfold step; rw [h]; simp [settle, hr]

/-- A step under reset sees the reset state (R230). -/
theorem step_cons_rst {s : State} {e : Event} {rest : List Event} (h : s.inputs = e :: rest) (hr : s.rst = true) :
    step s = handle e (underReset { s with inputs := rest }) := by
  unfold step; rw [h]; simp [settle, hr]

/-- What a tick step that answers a next state did (R44, R230). -/
theorem tickStep_cases {l : Bool} {s s' : State} (h : tickStep l s = .next s') :
    (s.rst = true ∧ s' = s) ∨
    (s.rst = false ∧ s.pend = true ∧ ∃ i, decode s.pcmd = .ok i ∧ exec i (countTick l s) = .next s') ∨
    (s.rst = false ∧ s.pend = false ∧ sendFetchedByte (resume Config.params (countTick l s)) = .next s') := by
  unfold tickStep at h
  cases hr : s.rst
  · cases hp : s.pend
    · simp [hr, hp] at h; simp [h]
    · simp only [hr, Bool.false_eq_true, if_false, countTick_pend, hp, if_true, startPending, countTick_pcmd] at h
      cases hd : decode s.pcmd with
      | ok i => simp [hd] at h; simp [h]
      | error e => simp [hd] at h
  · simp [hr] at h; simp [h]

/-- What the sending of a fetched byte did: nothing, or the byte the sequencer stood at. -/
theorem sendFetchedByte_cases {s s' : State} (h : sendFetchedByte s = .next s') :
    ((∀ b k, s.mp ≠ .atWire b k) ∧ s' = s) ∨
    ∃ b k i, s.mp = .atWire b k ∧ decodeWire b = .ok i ∧ s' = sendWireByte Config.params b s := by
  unfold sendFetchedByte at h
  split at h
  · rename_i b k hm
    split at h
    · rename_i i hi
      rw [exec_wire hi] at h
      cases h
      exact .inr ⟨b, k, i, hm, hi, rfl⟩
    · cases h
  · cases h; simp_all
  · cases h; simp_all

/-- What a host read did (R62). -/
theorem hostRead_cases {p : Params} {addr size : Nat} {s s' : State} (h : hostRead p addr size s = .next s') :
    ∃ off, accessOffset p addr size = .ok off ∧ s' = { s with rdata := readReg (regAt off) s } := by
  unfold hostRead at h
  split at h
  · cases h
  · cases h; exact ⟨_, ‹_›, rfl⟩

/-- What a host write did (R63, R230). -/
theorem hostWrite_cases {p : Params} {addr size : Nat} {v : Word} {s s' : State} (h : hostWrite p addr size v s = .next s') :
    ∃ off, accessOffset p addr size = .ok off ∧ s' = if s.rst then s else writeReg (regAt off) v s := by
  unfold hostWrite at h
  split at h
  · cases h
  · cases h; exact ⟨_, ‹_›, rfl⟩

/-- A defined write, the controller not under reset (R63). -/
theorem step_hostWrite {s : State} {rest : List Event} {a : Nat} {v : Word}
    (hi : s.inputs = .hostWrite (Config.base + a) 4 v :: rest) (hr : s.rst = false) (ha : a < 0x40) (h4 : a % 4 = 0) :
    step s = .next (writeReg (regAt a) v { s with inputs := rest }) := by
  rw [step_cons hi hr, handle, hostWrite, show Config.base + a = Config.params.base + a from rfl, accessOffset_base_add ha h4]
  simp [hr]

/-- A defined read, the controller not under reset (R62). -/
theorem step_hostRead {s : State} {rest : List Event} {a : Nat}
    (hi : s.inputs = .hostRead (Config.base + a) 4 :: rest) (hr : s.rst = false) (ha : a < 0x40) (h4 : a % 4 = 0) :
    step s = .next { s with inputs := rest, rdata := readReg (regAt a) { s with inputs := rest } } := by
  rw [step_cons hi hr, handle, hostRead, show Config.base + a = Config.params.base + a from rfl, accessOffset_base_add ha h4]

/-! ### Where a tick restarts TB -/

/-- `run` leaves TB where no WAIT starts, and then stands at no wire byte; where one starts, TB is 0 or a wire byte is to be sent. -/
theorem run_tb (p : Params) : ∀ (k : Prog) (s : State),
    (k.startsWait p s = false → (run p k s).tb = s.tb ∧ ∀ b j, (run p k s).mp ≠ .atWire b j) ∧
    (k.startsWait p s = true → (run p k s).tb = 0 ∨ ∃ b j, (run p k s).mp = .atWire b j)
  | .done, s => by simp [Prog.startsWait]
  | .op o k, s => by
    have h := run_tb p k (applyOp p o s)
    rwa [(applyOp_frame p o s).2.2.2.2.2.2.2.2.2.1] at h
  | .wait n k, s => by
    refine ⟨nofun, fun _ => ?_⟩
    by_cases h0 : (n.value s).toNat + p.waitExtra = 0
    · rw [run_wait_zero h0]
      have ht := (run_tb p k (startWait p (n.value s) s))
      cases hk : k.startsWait p (startWait p (n.value s) s)
      · exact .inl (ht.1 hk).1
      · exact ht.2 hk
    · rw [run_wait_holds h0]; exact .inl rfl
  | .wire b k, s => ⟨nofun, fun _ => .inr ⟨b, k, rfl⟩⟩
  | .ifPres f y n, s => by
    cases hf : presFlag f s
    · simpa [hf, Prog.startsWait] using run_tb p n s
    · simpa [hf, Prog.startsWait] using run_tb p y s

/-- Sending a wire byte restarts TB: its first slot's WAIT (R100, R140). -/
theorem sendWireByte_tb (b : Byte) (s : State) : (sendWireByte Config.params b s).tb = 0 := by
  simp only [sendWireByte, writeByte, slotsOut, writeBit, run_op]
  rw [run_wait_holds]
  · rfl
  · simp only [Count.value]
    generalize BitSource.shift0.value _ = c
    cases c <;> simp [Config.params]

/-! ### Runs of ticks -/

@[simp] theorem andThen_next (s : State) (f : State → Host.Outcome State Fault Refusal) : andThen (.next s) f = f s := rfl

theorem ticks_succ_next {lv : Nat → Bool} {n : Nat} {s t : State} (h : tickOnce lv s = .next t) :
    ticks lv (n + 1) s = ticks lv n t := by
  simp [ticks, h]

theorem ticks_add {lv : Nat → Bool} {m n : Nat} {s t : State} (h : ticks lv m s = .next t) :
    ticks lv (m + n) s = ticks lv n t := by
  induction m generalizing s with
  | zero => simp [ticks] at h; simp [h]
  | succ m ih =>
    rw [Nat.succ_add]
    cases ho : tickOnce lv s with
    | next r => rw [ticks_succ_next ho] at h ⊢; exact ih h
    | fault f => simp [ticks, ho, andThen] at h
    | refused f => simp [ticks, ho, andThen] at h

/-- A run's tick is the tick step: the inputs are left as they were. -/
theorem tickOnce_eq {lv : Nat → Bool} {s : State} (hr : s.rst = false) : tickOnce lv s = tickStep (lv (s.gt + 1)) s :=
  step_cons (s := { s with inputs := .tick (lv (s.gt + 1)) :: s.inputs }) rfl hr

/-- One tick of a controller that is not under reset and has nothing pending. -/
theorem tickOnce_running {lv : Nat → Bool} {s : State} (hr : s.rst = false) (hp : s.pend = false) :
    tickOnce lv s = sendFetchedByte (resume Config.params (countTick (lv (s.gt + 1)) s)) := by
  rw [tickOnce_eq hr, tickStep]
  simp only [hr, Bool.false_eq_true, if_false, countTick_pend, hp]

/-- One tick with a command pending (R44(b)). -/
theorem tickOnce_pending {lv : Nat → Bool} {s : State} {i : Instr} (hr : s.rst = false) (hp : s.pend = true)
    (hd : decode s.pcmd = .ok i) : tickOnce lv s = exec i (countTick (lv (s.gt + 1)) s) := by
  rw [tickOnce_eq hr, tickStep]
  simp only [hr, Bool.false_eq_true, if_false, countTick_pend, hp, if_true, startPending, countTick_pcmd, hd]

end Sys2Proof.Machine
end

