-- ==== Sys2Proof/Tests/Slice0.lean ====
section
/-! SUPPORT. The model's own tests, expected values from 95_test_vectors.md and the encoding tables, and a witness for the hypotheses
of each statement. -/

namespace Sys2Proof.Tests

open Sys2Proof Sys2Proof.Machine

/-! ### Well-formedness: an ill-formed term for each check -/

theorem test_access_word_ok : Access.wellFormed ⟨0x3C, 4⟩ = true := by decide
theorem test_access_byte_refused : Access.wellFormed ⟨0x00, 1⟩ = false := by decide
theorem test_access_half_refused : Access.wellFormed ⟨0x04, 2⟩ = false := by decide
theorem test_access_misaligned_refused : Access.wellFormed ⟨0x02, 4⟩ = false := by decide
theorem test_access_outside_refused : Access.wellFormed ⟨0x40, 4⟩ = false := by decide
theorem test_params_zero_divisor_refused : Params.wellFormed { base := 0, fracDivisor := 0 } = false := by decide
theorem test_params_defaults_ok : Params.wellFormed { base := 0 } = true := by decide

/-! ### Decoding: each word written out as {ARG16, ARG8, RSV, OP} (R80, R82, R83), each byte from its wire bits, last bit sent first
here (R87) -/

theorem test_decode_init : decode (0x0000#16 ++ 0b00000000#8 ++ 0b0000#4 ++ 0b0001#4) = .ok .init := by decide
theorem test_decode_resetPulse : decode (0x0000#16 ++ 0b00000000#8 ++ 0b0000#4 ++ 0b0010#4) = .ok .resetPulse := by decide
theorem test_decode_writeBit : decode (0x0000#16 ++ 0b00000001#8 ++ 0b0000#4 ++ 0b0011#4) = .ok (.writeBit true) := by decide
theorem test_decode_readBit : decode (0x0000#16 ++ 0b00000000#8 ++ 0b0000#4 ++ 0b0100#4) = .ok .readBit := by decide
theorem test_decode_writeByte : decode (0x0000#16 ++ 0b11001100#8 ++ 0b0000#4 ++ 0b0101#4) = .ok (.writeByte 0xCC) := by decide
theorem test_decode_readByte : decode (0x0000#16 ++ 0b00000000#8 ++ 0b0000#4 ++ 0b0110#4) = .ok .readByte := by decide
theorem test_decode_delay : decode (0x1D4C#16 ++ 0b00000000#8 ++ 0b0000#4 ++ 0b0111#4) = .ok (.delay 7500) := by decide
theorem test_decode_readTemperature :
    decode (0x0000#16 ++ 0b00000000#8 ++ 0b0000#4 ++ 0b1000#4) = .ok .readTemperature := by decide
theorem test_decode_decode : decode (0x0000#16 ++ 0b00000000#8 ++ 0b0000#4 ++ 0b1001#4) = .ok .decode := by decide
theorem test_decode_skipRomByte : decodeWire 0b11001100 = .ok .skipRomByte := by decide
theorem test_decode_convertTByte : decodeWire 0b01000100 = .ok .convertTByte := by decide
theorem test_decode_readScratchpadByte : decodeWire 0b10111110 = .ok .readScratchpadByte := by decide

/-- R84's four causes, by name. -/
theorem test_decode_illegal_names :
    decode 0x0000000A = .error .illegalOp ∧ decode 0x00000012 = .error .reservedBits ∧
    decode 0x00000203 = .error .arg8Bits ∧ decode 0x00010002 = .error .arg16Bits := by decide

theorem test_decode_not_wire_command : decodeWire 0x45 = .error .notWireCommand := by decide

/-- E11: the host's numbering of the wire rows, and a command row. -/
theorem test_decodeTableWord :
    decodeTableWord 8 0xCC = some .skipRomByte ∧ decodeTableWord 8 0x44 = some .convertTByte ∧
    decodeTableWord 8 0xBE = some .readScratchpadByte ∧ decodeTableWord 32 0x0000CC05 = some (.writeByte 0xCC) ∧
    decodeTableWord 32 0x80000001 = none := by decide

/-! ### One step each -/

/-- The outcome is a next state with the property. -/
def nextIs (o : Host.Outcome State Fault Refusal) (f : State → Bool) : Bool :=
  match o with
  | .next s => f s
  | .fault _ => false
  | .refused _ => false

/-- The controller in its last WAIT, of `n` ticks, `k` left after it, one tick before GT = t; the level at that tick is `l`. -/
def lastTick (n t : Nat) (k : Prog) (l : Bool) : State :=
  { State.reset with
    busy := true, seq := .prim, mp := .waiting k, wtgt := n, tb := BitVec.ofNat 16 (n - 1), gt := t - 1, inputs := [.tick l] }

/-- A scratchpad whose first two bytes are given. -/
def withSp (lsb msb : Byte) (s : State) : State := { s with sp := (s.sp.set 0 lsb).set 1 msb }

/-- 95_test_vectors.md 2.1, the STATUS column: what a CMD write to the idle controller leaves. -/
theorem test_accept_idle :
    ([(0x00000001 : Word), 0x00000002, 0x00000103, 0x00000003, 0x0000FF05, 0xFFFF0007, 0x00000009].all
      fun w => statusWord (acceptStep w State.reset) == 0x00001001) = true ∧
    statusWord (acceptStep 0x00000008 State.reset) = 0x00002001 := ⟨by rfl, by rfl⟩

theorem test_accept_illegal :
    ([(0x00000203 : Word), 0x00010005, 0x0000FF07, 0x00000000, 0x0000000A, 0x0000000F, 0x00000012, 0x80000001].all
      fun w => statusWord (acceptStep w State.reset) == 0x00000100) = true := by rfl

/-- 2.1's busy rows: dropped, ERR_OVR only. -/
theorem test_accept_busy :
    ([(0x00000002 : Word), 0x00000000].all
      fun w => statusWord (acceptStep w (acceptStep 0x00640007 State.reset)) == 0x00001201) = true := by rfl

/-- 2.1's STATUS writes, from both errors set. -/
theorem test_status_write_one_to_clear :
    let s : State := { State.reset with errIll := true, errOvr := true }
    statusWord (writeStatus 0x00000300 s) = 0 ∧ statusWord (writeStatus 0x00000100 s) = 0x00000200 ∧
    statusWord (writeStatus 0x00000200 s) = 0x00000100 ∧ statusWord (writeStatus 0x00000001 s) = 0x00000300 := by decide

/-- P3's packing of the scratchpad bytes. -/
theorem test_sp_packing :
    let s : State := { State.reset with sp := #v[0x91, 0x01, 0x4B, 0x46, 0x7F, 0xFF, 0x0F, 0x10, 0x19] }
    readReg .sp0 s = 0x464B0191 ∧ readReg .sp1 s = 0x100FFF7F ∧ readReg .sp2 s = 0x00000019 := by decide

/-- R113's example. -/
theorem test_init :
    nextIs (step ({ State.reset with errIll := true, errOvr := true }.withFetchWord 32 0x00000001))
      (fun s => statusWord s == 0 && s.trace == [.rel 1]) = true := by decide

/-- 2.3: STATUS after the start tick of RESET_PULSE. -/
theorem test_resetPulse_start :
    nextIs (step (State.reset.withFetchWord 32 0x00000002))
      (fun s => statusWord s == 0x00001003 && s.trace == [.low 1] && s.wtgt == 480) = true := by decide

/-- 2.3's first row, its last tick: a low sample then a high one. -/
theorem test_resetPulse_last :
    nextIs (step (lastTick 410 961 (.op (.smp .s2) (.op (.setPres .pres) .done)) true))
      (fun s => statusWord s == 0x00000004 && s.trace == [.smp 961 true]) = true := by decide

/-- 2.3: write-1 is low for 10. -/
theorem test_writeBit_one :
    nextIs (step (State.reset.withFetchWord 32 0x00000103)) (fun s => s.trace == [.low 1] && s.wtgt == 10) = true := by decide

/-- 2.3: write-0 is low for 65. -/
theorem test_writeBit_zero :
    nextIs (step (State.reset.withFetchWord 32 0x00000003)) (fun s => s.trace == [.low 1] && s.wtgt == 65) = true := by decide

/-- 2.3: the read slot's low phase. -/
theorem test_readBit_start :
    nextIs (step (State.reset.withFetchWord 32 0x00000004)) (fun s => s.trace == [.low 1] && s.wtgt == 5 && s.drive) = true := by
  decide

/-- 2.3: DATA at GT = 66. -/
theorem test_readBit_last :
    nextIs (step { lastTick 55 66 (.op .dataFromBit .done) false with rb := true })
      (fun s => readReg .data s == 0x00000001 && statusWord s == 0 && s.gt == 66) = true := by decide

/-- 2.4: 0x01's first slot is a 1. -/
theorem test_writeByte_first_slot :
    nextIs (step (State.reset.withFetchWord 32 0x00000105)) (fun s => s.trace == [.low 1] && s.wtgt == 10) = true := by decide

/-- 2.4: 0x80's first slot is a 0. -/
theorem test_writeByte_msb_not_first :
    nextIs (step (State.reset.withFetchWord 32 0x00008005)) (fun s => s.trace == [.low 1] && s.wtgt == 65) = true := by decide

/-- 2.4: DATA keeps its value while the byte is read. -/
theorem test_readByte_start :
    nextIs (step ({ State.reset with data := 0xA5 }.withFetchWord 32 0x00000006))
      (fun s => readReg .data s == 0x000000A5 && s.trace == [.low 1] && s.wtgt == 5) = true := by decide

/-- 2.4: the draws 0,0,0,0,0,0,0,1 give 0x80. -/
theorem test_readByte_last :
    nextIs (step { lastTick 55 521 (.op .shiftIn (.op .dataFromShift .done)) false with rb := true, bitcnt := 7 })
      (fun s => readReg .data s == 0x00000080 && statusWord s == 0 && readReg .tbCount s == 55) = true := by decide

/-- 2.2: DELAY 0 completes in its start tick with TB = 0. -/
theorem test_delay_zero :
    nextIs (step ({ State.reset with tb := 5 }.withFetchWord 32 0x00000007))
      (fun s => statusWord s == 0 && s.tb == 0 && s.trace == []) = true := by decide

/-- 2.2: DELAY 1 holds for one tick. -/
theorem test_delay_one :
    nextIs (step (State.reset.withFetchWord 32 0x00010007))
      (fun s => statusWord s == 0x00001001 && s.tb == 0 && s.gt == 1) = true := by decide

/-- R73: PRES1 to PRES3 read 0 from the start tick. -/
theorem test_readTemperature_start :
    nextIs (step ({ State.reset with pres1 := true, pres2 := true, pres3 := true }.withFetchWord 32 0x00000008))
      (fun s => statusWord s == 0x00002003 && s.trace == [.low 1] && s.wtgt == 480) = true := by rfl

/-- P4: with no presence at reset 1 the conversion wait follows at once. -/
theorem test_readTemperature_absent_waits :
    nextIs (step (lastTick 410 961 (.op (.smp .s2) (.op (.setPres .pres1)
        (.ifPres .pres1 .done (conversionWait Config.params)))) true |> fun s => { s with s1 := true }))
      (fun s => statusWord s == 0x00005001 && s.trace == [.smp 961 true] && s.wtgt == 7500) = true := by rfl

/-- E5 and E6 through DECODE. -/
theorem test_decode_positive :
    nextIs (step ((withSp 0x91 0x01 State.reset).withFetchWord 32 0x00000009))
      (fun s => readReg .tempInt s == 0x19 && readReg .tempFrac s == 0 && readReg .tempRaw s == 0x191 && statusWord s == 0)
      = true := by decide

theorem test_decode_negative :
    nextIs (step ((withSp 0xFF 0xFF State.reset).withFetchWord 32 0x00000009))
      (fun s => readReg .tempInt s == 0xF1 && readReg .tempFrac s == 9 && readReg .tempRaw s == 0xFFFF && statusWord s == 0x40)
      = true := by decide

/-- 2.5's TEMP_INT column: (MSB, LSB, TEMP_INT). -/
theorem test_decoder_table :
    ([((0x00 : Byte), (0xA2 : Byte), (0x0A : Byte)), (0x05, 0x50, 0x55), (0x07, 0xD0, 0x7D), (0x07, 0xFF, 0x7F),
        (0x08, 0x00, 0x00), (0x7F, 0xFF, 0x7F), (0xFF, 0x5E, 0xFB), (0xFF, 0x0F, 0x00), (0xFE, 0xFF, 0xE1), (0xFE, 0x6F, 0xEA),
        (0xFC, 0x90, 0xC7), (0xF8, 0x00, 0x90), (0x80, 0x00, 0x90)].all
      fun r => tempIntOf r.2.1 r.1 == r.2.2) = true := by rfl

/-- 2.5's FRAC_DIVISOR = 10 column: (LSB, TEMP_FRAC). -/
theorem test_decoder_divisor_ten :
    ([((0x01 : Byte), (62 : BitVec 10)), (0x08, 500), (0x0F, 937), (0xA2, 125), (0x5E, 875)].all
      fun r => tempFracOf { base := 0, fracDivisor := 10 } r.1 == r.2) = true := by rfl

/-- E11: all three bytes begin with a 0, so a first slot low for 65; then what the byte's later bits are. -/
theorem test_skipRomByte :
    nextIs (step (State.reset.withFetchWord 8 0xCC))
      (fun s => s.trace == [.low 1] && s.wtgt == 65 && s.shift == 0xCC && statusWord s == 0x00003003) = true := by decide

theorem test_convertTByte :
    nextIs (step (State.reset.withFetchWord 8 0x44))
      (fun s => s.trace == [.low 1] && s.wtgt == 65 && s.shift == 0x44 && statusWord s == 0x00004003) = true := by decide

theorem test_readScratchpadByte :
    nextIs (step (State.reset.withFetchWord 8 0xBE))
      (fun s => s.trace == [.low 1] && s.wtgt == 65 && s.shift == 0xBE && statusWord s == 0x00008003) = true := by decide

/-! ### Witnesses: states and operands that meet the hypotheses of each statement (none where it has none) -/

/-- The state of a next outcome. -/
def nextOf (o : Host.Outcome State Fault Refusal) : State :=
  match o with
  | .next s => s
  | .fault _ => State.reset
  | .refused _ => State.reset

/-- The idle controller with inputs to come. -/
def idle (es : List Event) : State := { State.reset with inputs := es }

/-- A DELAY 1 in its WAIT, with inputs to come. -/
def delaying (es : List Event) : State :=
  { State.reset with busy := true, seq := .prim, mp := .waiting .done, wtgt := 1, gt := 1, inputs := es }

/-- RESET_PULSE or another command pending, the tick to come. -/
def pendingWord (w : Word) : State := State.reset.withFetchWord 32 w.toNat

/-- A line that is high at the times given and low at every other. -/
def highAt (ts : List Nat) (t : Nat) : Bool := ts.contains t

/-- The levels that make both, the first, the second or neither of READ_TEMPERATURE's first two reset pulses from GT = 0 find a device. -/
def bothPresent : Nat → Bool := highAt [960, 753120]
def firstPresent : Nat → Bool := highAt [960]
def secondPresent : Nat → Bool := highAt [751920]
def nonePresent : Nat → Bool := highAt []

theorem not_decoded {w : Word} (h : (instrOf (decode w)).isSome = false) : ∀ i, decode w ≠ .ok i := by
  intro i e; simp [e] at h

theorem witness_EncodeOfDecodeIsIdentity :
    decodeCode (.cmd 0x1D4C0007) = .ok (.delay 7500) ∧ decodeCode (.wire 0xBE) = .ok .readScratchpadByte := by decide

theorem witness_LegalWordsMatchExactlyOneRow :
    decode 0xFFFF0007 = .ok (.delay 65535) ∧ ∃ r ∈ cmdRows, r.hit 0xFFFF0007 = true ∧ r.mnemonic = "DELAY" := by
  refine ⟨by decide, ⟨"DELAY", 0x00000007, 0x0000FFFF⟩, by decide, by decide, by decide⟩

theorem witness_IllegalWordsAreTheFourCauses :
    (idle [.hostWrite Config.base 4 0x00000012]).inputs = [.hostWrite Config.base 4 0x00000012] ∧
    (idle [.hostWrite Config.base 4 0x00000012]).rst = false ∧ (idle [.hostWrite Config.base 4 0x00000012]).busy = false ∧
    ∀ i, decode 0x00000012 ≠ .ok i := ⟨rfl, rfl, rfl, not_decoded (by decide)⟩

theorem witness_OperandsComeFromTheirFields :
    decode 0x00000103 = .ok (.writeBit true) ∧ decode 0x00000003 = .ok (.writeBit false) ∧
    decode 0x0000FF05 = .ok (.writeByte 0xFF) ∧ decode 0x00000005 = .ok (.writeByte 0x00) ∧
    decode 0xFFFF0007 = .ok (.delay 0xFFFF) ∧ decode 0x00000007 = .ok (.delay 0) := by decide

theorem witness_WireBytesDecodeInWireOrder : decodeWire 0xCC = .ok .skipRomByte := by decide

theorem witness_AcceptStepThreeCases :
    (delaying [.hostWrite Config.base 4 0x00000002]).busy = true ∧ (delaying [.hostWrite Config.base 4 0x00000002]).rst = false ∧
    (idle [.hostWrite Config.base 4 0x0000000A]).busy = false ∧ (∀ i, decode 0x0000000A ≠ .ok i) ∧
    decode 0x00000008 = .ok .readTemperature ∧ decode 0x00000009 = .ok .decode :=
  ⟨rfl, rfl, rfl, not_decoded (by decide), by decide, by decide⟩

theorem witness_ErrorsRaisedOnlyByCmdWrites :
    (∃ s', step (idle [.hostWrite Config.base 4 0x00000000]) = .next s' ∧ s'.errIll = true) ∧
    (∃ s', step (delaying [.hostWrite Config.base 4 0x00000000]) = .next s' ∧ s'.errOvr = true) :=
  ⟨⟨_, step_hostWrite (a := 0) rfl rfl (by decide) rfl, rfl⟩, ⟨_, step_hostWrite (a := 0) rfl rfl (by decide) rfl, rfl⟩⟩

theorem witness_ErrorBitsStickUntilCleared :
    let both (s : State) : State := { s with errIll := true, errOvr := true }
    (ErrorInv (both (pendingWord 0x00000001)) ∧ ∃ s', step (both (pendingWord 0x00000001)) = .next s' ∧
      s'.errIll = false ∧ s'.errOvr = false) ∧
    (ErrorInv (both (idle [.hostWrite (Config.base + 4) 4 0x00000300])) ∧
      ∃ s', step (both (idle [.hostWrite (Config.base + 4) 4 0x00000300])) = .next s' ∧ s'.errIll = false ∧ s'.errOvr = false) ∧
    (ErrorInv (both (delaying [.rst true])) ∧ ∃ s', step (both (delaying [.rst true])) = .next s' ∧
      s'.errIll = false ∧ s'.errOvr = false) ∧
    (∃ s', step { both (delaying [.tick true]) with rst := true } = .next s' ∧ s'.errIll = false ∧ s'.errOvr = false) :=
  ⟨⟨rfl, _, rfl, rfl, rfl⟩, ⟨rfl, _, step_hostWrite (a := 4) rfl rfl (by decide) rfl, rfl, rfl⟩, ⟨rfl, _, rfl, rfl, rfl⟩,
    ⟨_, rfl, rfl, rfl⟩⟩

theorem witness_ErrorInvKeptByEveryStep :
    ErrorInv (delaying [.tick true]) ∧ ∃ s', step (delaying [.tick true]) = .next s' := ⟨rfl, _, rfl⟩

theorem witness_HostReadReturnsTheRegister :
    ∀ a ∈ [0x00, 0x04, 0x20, 0x24, 0x28, 0x3C], a < 0x40 ∧ a % 4 = 0 ∧
      (delaying [.hostRead (Config.base + a) 4]).inputs = [.hostRead (Config.base + a) 4] ∧
      (delaying [.hostRead (Config.base + a) 4]).rst = false := by
  intro a ha
  refine ⟨?_, ?_, rfl, rfl⟩ <;> simp at ha <;> omega

theorem witness_WindowValuesAreExact : ∀ a ∈ [0x00, 0x04, 0x18, 0x20, 0x24, 0x3C], a < 0x40 ∧ a % 4 = 0 := by decide

theorem witness_HostWriteActsAtCmdAndStatusOnly :
    ∀ a ∈ [0x00, 0x04, 0x08, 0x3C], a < 0x40 ∧ a % 4 = 0 ∧
      (idle [.hostWrite (Config.base + a) 4 0x00000301]).inputs = [.hostWrite (Config.base + a) 4 0x00000301] ∧
      (idle [.hostWrite (Config.base + a) 4 0x00000301]).rst = false := by
  intro a ha
  refine ⟨?_, ?_, rfl, rfl⟩ <;> simp at ha <;> omega

theorem witness_UndefinedAccessesAreRefused :
    (∀ a ∈ [0x00, 0x3C], Config.base ≤ Config.base + a ∧ Config.base + a < Config.base + 0x40 ∧
      (Config.base + a - Config.base) % 4 = 0 ∧ (idle [.hostRead (Config.base + a) 4]).inputs = [.hostRead (Config.base + a) 4]) ∧
    (∀ p ∈ [(0x00, 1), (0x00, 2), (0x02, 4), (0x40, 4)],
      ¬ (p.2 = 4 ∧ Config.base ≤ Config.base + p.1 ∧ Config.base + p.1 < Config.base + 0x40 ∧
        (Config.base + p.1 - Config.base) % 4 = 0) ∧
      (idle [.hostWrite (Config.base + p.1) p.2 0]).inputs = [.hostWrite (Config.base + p.1) p.2 0]) := by
  constructor
  · intro a ha
    refine ⟨?_, ?_, ?_, rfl⟩ <;> simp at ha <;> omega
  · intro p hp
    refine ⟨?_, rfl⟩
    simp at hp
    rcases hp with rfl | rfl | rfl | rfl <;> simp

theorem witness_WaitTakesItsCount :
    let p : Params := { base := 0 }
    let q : Params := { base := 0, waitExtra := 1 }
    (0 = (0 : Half).toNat + p.waitExtra ∧ 0 < 2 ^ 16) ∧ (1 = (0 : Half).toNat + q.waitExtra ∧ 1 < 2 ^ 16) ∧
    (65535 = (65535 : Half).toNat + p.waitExtra ∧ 65535 < 2 ^ 16) ∧ (65535 = (65534 : Half).toNat + q.waitExtra) := by decide

theorem witness_LongestWaitHangsWithExtraOne : ({ base := 0, waitExtra := 1 } : Params).waitExtra = 1 := rfl

/-- A tick where a WAIT starts (a DELAY's start, a WAIT after a WAIT, a wire byte's first), and where none does (idle, DECODE, a WAIT
that holds, one that ends the command); and a step without input. -/
theorem witness_TimeBaseCountsEveryTick :
    (∃ s', step (pendingWord 0x00000007) = .next s' ∧ tickStartsWait true (pendingWord 0x00000007) = true ∧ s'.tb = 0) ∧
    (∃ s', step (lastTick 5 6 (.op .rel (.wait (.ticks 5) .done)) true) = .next s' ∧
      tickStartsWait true (lastTick 5 6 (.op .rel (.wait (.ticks 5) .done)) true) = true ∧ s'.tb = 0) ∧
    (∃ s', step (State.reset.withFetchWord 8 0xCC) = .next s' ∧
      tickStartsWait true (State.reset.withFetchWord 8 0xCC) = true ∧ s'.tb = 0) ∧
    (∃ s', step (idle [.tick true]) = .next s' ∧ tickStartsWait true (idle [.tick true]) = false ∧ s'.tb = 1) ∧
    (∃ s', step (pendingWord 0x00000009) = .next s' ∧ tickStartsWait true (pendingWord 0x00000009) = false ∧ s'.tb = 1) ∧
    (∃ s', step { delaying [.tick true] with wtgt := 2 } = .next s' ∧
      tickStartsWait true { delaying [.tick true] with wtgt := 2 } = false ∧ s'.tb = 1) ∧
    (∃ s', step (delaying [.tick true]) = .next s' ∧ tickStartsWait true (delaying [.tick true]) = false ∧ s'.tb = 1) ∧
    (∃ s', step (idle []) = .next s' ∧ (idle []).rst = false) :=
  ⟨⟨_, rfl, by decide, rfl⟩, ⟨_, rfl, by decide, rfl⟩, ⟨_, rfl, by decide, rfl⟩, ⟨_, rfl, by decide, rfl⟩,
    ⟨_, rfl, by decide, rfl⟩, ⟨_, rfl, by decide, rfl⟩, ⟨_, rfl, by decide, rfl⟩, ⟨_, rfl, rfl⟩⟩

theorem witness_IdleTickOnlyCounts :
    (idle [.tick false]).inputs = [.tick false] ∧ (idle [.tick false]).rst = false ∧ (idle [.tick false]).pend = false ∧
    (idle [.tick false]).mp = .empty := by decide

theorem witness_DelayTakesItsCount : State.reset.rst = false := rfl

theorem witness_StepRunsThePendingCommand :
    (pendingWord 0x1D4C0007).inputs = [.tick true] ∧ (pendingWord 0x1D4C0007).rst = false ∧
    (pendingWord 0x1D4C0007).pend = true ∧ decode (pendingWord 0x1D4C0007).pcmd = .ok (.delay 7500) := by decide

theorem witness_StepSendsTheFetchedByte :
    let s := State.reset.withFetchWord 8 0xBE
    s.inputs = [.tick true] ∧ s.rst = false ∧ s.pend = false ∧
    (resume Config.params { s with inputs := [], tb := s.tb + 1, gt := s.gt + 1, owIn := true }).mp = .atWire 0xBE .done ∧
    decodeWire 0xBE = .ok .readScratchpadByte ∧
    ∀ b k, (resume Config.params { idle [] with tb := 1, gt := 1, owIn := true }).mp ≠ .atWire b k :=
  ⟨rfl, rfl, rfl, rfl, by decide, fun _ _ => nofun⟩

theorem witness_PlacedWordIsRun : decode 0x00000008 = .ok .readTemperature ∧ decodeWire 0x44 = .ok .convertTByte := by decide

theorem witness_ResetPulseRunsWhole : State.reset.rst = false := rfl

theorem witness_PresenceNeedsLowThenHigh :
    (highAt [960] 550 = false ∧ highAt [960] 960 = true) ∧
    (highAt [] 550 = false ∧ highAt [] 960 = false) ∧ (highAt [550, 960] 550 = true ∧ highAt [550, 960] 960 = true) ∧
    (highAt [550] 550 = true ∧ highAt [550] 960 = false) ∧
    (highAt [3, 960] 550 = highAt [960] 550 ∧ highAt [3, 960] 960 = highAt [960] 960) := by decide

theorem witness_WriteBitRunsWhole : State.reset.rst = false := rfl

theorem witness_WriteSlotWaveform :
    10 = (if (BitSource.const true).value State.reset then 10 else 65) ∧
    65 = (if BitSource.shift0.value State.reset then 10 else 65) ∧ ∀ j ∈ [0, 9, 10, 64, 65, 74], j < 75 := by decide

theorem witness_ReadBitRunsWhole : State.reset.rst = false := rfl

theorem witness_WriteByteRunsWhole : State.reset.rst = false := rfl

theorem witness_ReadByteRunsWhole : State.reset.rst = false := rfl

/-- E2's second row: the draws of 0xA5. -/
theorem witness_ReadByteInvertsWriteByte :
    State.reset.rst = false ∧
    ∀ i, i < 8 → highAt [10, 140, 335, 465] (State.reset.gt + 65 * i + 10) = (0xA5 : Byte).getLsbD i := by decide

theorem witness_WireByteIsSentThenTheRestRuns :
    ∀ p ∈ [(Instr.skipRomByte, (0xCC : Byte)), (.convertTByte, 0x44), (.readScratchpadByte, 0xBE)],
      ((p.1 = .skipRomByte ∧ p.2 = 0xCC) ∨ (p.1 = .convertTByte ∧ p.2 = 0x44) ∨ (p.1 = .readScratchpadByte ∧ p.2 = 0xBE)) ∧
      (delaying []).rst = false ∧ (delaying []).pend = false := by decide

theorem witness_ReadTemperatureRunsWhole : State.reset.rst = false := rfl

/-- All four durations of R160 occur, from a busy controller that is not under reset. -/
theorem witness_ReadTemperatureDurations :
    (delaying []).rst = false ∧ (delaying []).busy = true ∧
    (presenceAt bothPresent 0 = true ∧ secondPresence bothPresent 0 = true ∧ readTemperatureTicks bothPresent 0 = 759960) ∧
    (presenceAt firstPresent 0 = true ∧ secondPresence firstPresent 0 = false ∧ readTemperatureTicks firstPresent 0 = 754080) ∧
    (presenceAt secondPresent 0 = false ∧ secondPresence secondPresent 0 = true ∧
      readTemperatureTicks secondPresent 0 = 758760) ∧
    (presenceAt nonePresent 0 = false ∧ secondPresence nonePresent 0 = false ∧
      readTemperatureTicks nonePresent 0 = 752880) :=
  ⟨rfl, rfl, ⟨by rfl, by rfl, by rfl⟩, ⟨by rfl, by rfl, by rfl⟩, ⟨by rfl, by rfl, by rfl⟩, ⟨by rfl, by rfl, by rfl⟩⟩

/-- SEQ where its ranges meet, by the start times of 43_transaction.md. -/
theorem witness_ReadTemperatureSequencerStates :
    State.reset.rst = false ∧ 759960 ≤ readTemperatureTicks bothPresent State.reset.gt ∧
    ([(0, Seq.reset1), (959, .reset1), (960, .skipRom1), (1559, .skipRom1), (1560, .convert), (2159, .convert), (2160, .convWait),
        (752159, .convWait), (752160, .reset2), (753119, .reset2), (753120, .skipRom2), (753720, .readSp), (754319, .readSp),
        (754320, .readBytes), (758999, .readBytes), (759000, .reset3), (759959, .reset3), (759960, .idle)].all
      fun r => seqAfter bothPresent 0 r.1 == r.2) = true ∧
    ([(959, Seq.reset1), (960, .convWait), (750959, .convWait), (750960, .reset2), (751920, .reset3), (752880, .idle)].all
      fun r => seqAfter nonePresent 0 r.1 == r.2) = true := ⟨rfl, by decide, by rfl, by rfl⟩

/-- The ticks at which a register changes, by 43_transaction.md R161's schedule with a device at both resets: PRES1 at 960, PRES2 at
753120, SP[0] at 754840, SP[8] and the decode at 759000, PRES3 at 759960; and the tick before each. -/
theorem witness_ReadTemperatureRegistersAtEveryTick :
    State.reset.rst = false ∧
    ([(959, false), (960, true)].all fun r => presAfter bothPresent 0 0 r.1 == r.2) = true ∧
    ([(753119, false), (753120, true)].all fun r => presAfter bothPresent 0 (reset2Start bothPresent 0) r.1 == r.2) = true ∧
    ([(754839, 0xFF), (754840, 0x00)].all
      fun r => (spAfter bothPresent 0 r.1 (Vector.replicate 9 0xFF))[0] == (r.2 : Byte)) = true ∧
    ([(758999, 0xFF), (759000, 0x00)].all
      fun r => (spAfter bothPresent 0 r.1 (Vector.replicate 9 0xFF))[8] == (r.2 : Byte)) = true ∧
    ([(758999, false), (759000, true)].all fun r => decodedAfter bothPresent 0 r.1 == r.2) = true ∧
    decodedAfter firstPresent 0 754080 = false ∧ 759960 ≤ readTemperatureTicks bothPresent State.reset.gt :=
  ⟨rfl, by rfl, by rfl, by rfl, by rfl, by rfl, by rfl, by decide⟩

theorem witness_StaleDataWhenSecondPresenceFails :
    State.reset.rst = false ∧ (readTemperatureEnd firstPresent State.reset).pres2 = false := by
  refine ⟨rfl, ?_⟩
  have h (lv : Nat → Bool) (s : State) : (readTemperatureEnd lv s).pres2 = secondPresence lv s.gt := rfl
  rw [h, show State.reset.gt = 0 from rfl]
  rfl

theorem witness_CommandsTakeTheirTicks : (delaying []).rst = false ∧ (delaying []).busy = true := by decide

theorem witness_DecodeComputesTheReading :
    (∃ lsb msb m ip : Nat, lsb = (withSp 0x5E 0xFF State.reset).sp[0].toNat ∧ msb = (withSp 0x5E 0xFF State.reset).sp[1].toNat ∧
      m = (if 128 ≤ msb then 255 - msb else msb) ∧ ip = m % 8 * 16 + lsb / 16 ∧ 128 ≤ msb) ∧
    (∃ lsb msb m ip : Nat, lsb = (withSp 0xFF 0x7F State.reset).sp[0].toNat ∧ msb = (withSp 0xFF 0x7F State.reset).sp[1].toNat ∧
      m = (if 128 ≤ msb then 255 - msb else msb) ∧ ip = m % 8 * 16 + lsb / 16 ∧ msb < 128) :=
  ⟨⟨_, _, _, _, rfl, rfl, rfl, rfl, by decide⟩, ⟨_, _, _, _, rfl, rfl, rfl, rfl, by decide⟩⟩

/-- 2.5's 0xFF0F row: the integer field is 0 and the reading negative. -/
theorem witness_IntegerPartNeverOverflows :
    (nextOf (exec .decode (withSp 0x0F 0xFF State.reset))).minus = true ∧
    integerField (withSp 0x0F 0xFF State.reset).sp[0] (withSp 0x0F 0xFF State.reset).sp[1] = 0 ∧
    (nextOf (exec .decode (withSp 0xFF 0x7F State.reset))).minus = false := by decide

theorem witness_DecoderArithmeticLaws :
    (∃ t, exec .decode (withSp 0xFF 0x07 State.reset) = .next t) ∧ (withSp 0xFF 0x07 State.reset).sp[1].toNat < 8 ∧
    (∃ t', exec .decode (withSp 0xFF 0x7F State.reset) = .next t') ∧
    (withSp 0xFF 0x7F State.reset).sp[0] = (withSp 0xFF 0x07 State.reset).sp[0] ∧
    (withSp 0xFF 0x7F State.reset).sp[1].toNat % 8 = (withSp 0xFF 0x07 State.reset).sp[1].toNat % 8 ∧
    (withSp 0xFF 0x7F State.reset).sp[1].toNat / 128 = (withSp 0xFF 0x07 State.reset).sp[1].toNat / 128 :=
  ⟨⟨_, rfl⟩, by decide, ⟨_, rfl⟩, by decide, by decide, by decide⟩

/-- A pending command, a WAIT that ends, an idle tick, a reset: each meets the invariant and steps. -/
theorem witness_ControlInvKeptByEveryStep :
    (ControlInv (pendingWord 0x00000002) ∧ ∃ s', step (pendingWord 0x00000002) = .next s') ∧
    (ControlInv (delaying [.tick true]) ∧ ∃ s', step (delaying [.tick true]) = .next s') ∧
    (ControlInv (delaying [.rst true]) ∧ ∃ s', step (delaying [.rst true]) = .next s') :=
  ⟨⟨by decide, _, rfl⟩, ⟨by decide, _, rfl⟩, ⟨by decide, _, rfl⟩⟩

theorem witness_BusySeqPendDriveAgree :
    (ControlInv (pendingWord 0x00000002) ∧ ∃ s', step (pendingWord 0x00000002) = .next s' ∧ s'.drive = true) ∧
    (ControlInv (delaying [.tick true]) ∧ ∃ s', step (delaying [.tick true]) = .next s' ∧ s'.busy = false ∧ s'.seq = .idle) ∧
    (ControlInv (idle [.hostWrite Config.base 4 0x00000009]) ∧
      ∃ s', step (idle [.hostWrite Config.base 4 0x00000009]) = .next s' ∧ s'.pend = true) :=
  ⟨⟨by decide, _, rfl, rfl⟩, ⟨by decide, _, rfl, rfl, rfl⟩,
    ⟨by decide, _, step_hostWrite (a := 0) rfl rfl (by decide) rfl, rfl⟩⟩

theorem witness_NoStepFaultsFromLegalStates :
    ControlInv (pendingWord 0x00000002) ∧ ControlInv (idle [.hostRead Config.base 1]) ∧
    ControlInv (idle [.hostWrite (Config.base + 2) 4 0]) := ⟨by decide, by decide, by decide⟩

theorem witness_WaveformAgreesWithDrive :
    (ControlInv (pendingWord 0x00000002) ∧ WaveformInv (pendingWord 0x00000002) ∧
      ∃ s', step (pendingWord 0x00000002) = .next s' ∧ s'.drive = true) ∧
    (ControlInv (lastTick 410 961 (.op (.smp .s2) (.op (.setPres .pres) .done)) true) ∧
      WaveformInv (lastTick 410 961 (.op (.smp .s2) (.op (.setPres .pres) .done)) true)) :=
  ⟨⟨by decide, by decide, _, rfl, rfl⟩, ⟨by decide, by decide⟩⟩

theorem witness_TraceStaysInTimeOrder :
    TimedInv { pendingWord 0x00000002 with gt := 9, trace := [.low 1, .rel 6, .smp 9 true] } ∧
    ∃ s', step { pendingWord 0x00000002 with gt := 9, trace := [.low 1, .rel 6, .smp 9 true] } = .next s' := ⟨by decide, _, rfl⟩

/-- Both cases of DecodeInv: the fields fresh, and stale with a decode ahead. -/
theorem witness_DecodeInvKeptByEveryStep :
    (ControlInv (pendingWord 0x00000009) ∧ DecodeInv (pendingWord 0x00000009) ∧
      ∃ s', step (pendingWord 0x00000009) = .next s') ∧
    (let s := withSp 0x91 0x01 (lastTick 55 521 (.op .decodeSp .done) true);
      ControlInv s ∧ DecodeInv s ∧ ¬ Fresh s ∧ ∃ s', step s = .next s') :=
  ⟨⟨by decide, by decide, _, rfl⟩, ⟨by decide, by decide, by decide, _, rfl⟩⟩

theorem witness_IdleStateIsDecoded :
    ControlInv (delaying [.tick true]) ∧ DecodeInv (delaying [.tick true]) ∧
    ∃ s', step (delaying [.tick true]) = .next s' ∧ s'.busy = false := ⟨by decide, by decide, _, rfl, rfl⟩

theorem witness_CountersStayInRange :
    let s := lastTick 10 601 (.op .shiftOut .done) true
    CounterInv { s with bitcnt := 7, bytecnt := 9, loopcnt := 100 } ∧
    ∃ s', step { s with bitcnt := 7, bytecnt := 9, loopcnt := 100 } = .next s' ∧ s'.bitcnt = 8 := ⟨by decide, _, rfl, rfl⟩

theorem witness_HostAccessLeavesTheCommandAlone :
    (∃ s', step (delaying [.hostRead (Config.base + 4) 4]) = .next s') ∧
    (∃ s', step (delaying [.hostWrite Config.base 4 0x00000002]) = .next s') ∧
    (delaying []).rst = false ∧ (delaying []).busy = true :=
  ⟨⟨_, step_hostRead (a := 4) rfl rfl (by decide) rfl⟩, ⟨_, step_hostWrite (a := 0) rfl rfl (by decide) rfl⟩, rfl, rfl⟩

theorem witness_TicksDoNotReadTheErrorBits :
    SameButErrors (pendingWord 0x00000002) { pendingWord 0x00000002 with errIll := true, rdata := 0x00000300 } := rfl

theorem witness_OnlyAnAcceptedWordSetsBusy :
    ∃ s', step (idle [.hostWrite Config.base 4 0x00000009]) = .next s' ∧
      (idle [.hostWrite Config.base 4 0x00000009]).busy = false ∧ s'.busy = true :=
  ⟨_, step_hostWrite (a := 0) rfl rfl (by decide) rfl, rfl, rfl⟩

theorem witness_ReadTemperatureLeavesDataAndPres :
    State.reset.rst = false ∧ ∀ j ∈ [0, 752159, 759960], j ≤ readTemperatureTicks bothPresent State.reset.gt := by decide

theorem witness_ResetHoldsTheResetState :
    (delaying [.rst true]).inputs = [.rst true] ∧
    ({ delaying [.tick false] with rst := true } : State).inputs = [.tick false] ∧
    ∀ a ∈ [0x00, 0x3C], a < 0x40 ∧ a % 4 = 0 ∧
      ({ delaying [.hostRead (Config.base + a) 4] with rst := true } : State).inputs = [.hostRead (Config.base + a) 4] := by
  refine ⟨rfl, rfl, ?_⟩
  intro a ha
  refine ⟨?_, ?_, rfl⟩ <;> simp at ha <;> omega

theorem witness_WriteUnderResetChangesNothing :
    ({ delaying [.hostWrite Config.base 4 0x00000002] with rst := true } : State).rst = true ∧
    ({ delaying [.hostWrite Config.base 4 0x00000002] with rst := true } : State).inputs =
      [.hostWrite (Config.base + 0) 4 0x00000002] := ⟨rfl, rfl⟩

theorem witness_ReleasedResetAcceptsACommand :
    ({ delaying [.rst false, .hostWrite Config.base 4 0x00000002] with rst := true } : State).rst = true ∧
    decode 0x00000002 = .ok .resetPulse ∧
    ({ delaying [.rst false, .hostWrite Config.base 4 0x00000002] with rst := true } : State).inputs =
      [.rst false, .hostWrite Config.base 4 0x00000002] := ⟨rfl, by decide, rfl⟩

end Sys2Proof.Tests
end

namespace Sys2Proof.Machine

/-! ### Proofs: the control state (R46, R48) -/

/-! #### The reset state -/

/-- Every scratchpad byte is 0 at reset (R33, R48). -/
theorem reset_sp (k : Fin 9) : State.reset.sp[k] = 0 := Vector.getElem_replicate k.isLt

/-- The decoded fields equal `Decode(SP)` at reset: both bytes are 0, and so is each of the four fields (R48, R180). -/
theorem fresh_reset : Fresh State.reset := by
  have h0 : State.reset.sp[0] = 0 := reset_sp 0
  have h1 : State.reset.sp[1] = 0 := reset_sp 1
  rw [Fresh, h0, h1]
  decide

/-- Settles O55: each register is a field of the reset state, SP is a constant vector, and both sides of the decode are 0. -/
theorem resetValues : Obligations.ResetValues := by
  unfold Obligations.ResetValues
  have hstatus : statusValue State.reset = 0 := rfl
  refine ⟨hstatus, rfl, rfl, rfl, rfl, rfl, rfl, rfl, rfl, rfl, rfl, rfl, rfl, rfl, rfl, reset_sp, rfl, rfl, rfl, rfl, rfl,
    rfl, rfl, rfl, rfl, rfl, rfl, rfl, rfl, rfl, fresh_reset⟩

/-- Under reset the control state is idle (R230). -/
theorem controlInv_underReset (s : State) : ControlInv (underReset s) := by
  simp [ControlInv, underReset, State.reset, Position.lineSafe]

/-! #### Each command's micro-program is safe from a released line -/

theorem lineSafe_phase3 (p : Params) (d : Bool) : (phase3 p).lineSafe d = true := by
  simp [phase3, Prog.lineSafe]

/-- Phase 2's block sends two of R87's bytes and leaves the line released. -/
theorem lineSafe_phase2Block (p : Params) (k : Prog) (d : Bool) : (phase2Block p k).lineSafe d = k.lineSafe false := by
  have hskip : (instrOf (decodeWire Config.cmdSkipRom)).isSome = true := by decide
  have hread : (instrOf (decodeWire Config.cmdReadScratchpad)).isSome = true := by decide
  rw [Bool.eq_iff_iff]
  simp [phase2Block, Prog.lineSafe, lineSafe_scratchpadReads, hskip, hread]

theorem lineSafe_phase2 (p : Params) (d : Bool) : (phase2 p).lineSafe d = true := by
  simp [phase2, Prog.lineSafe, lineSafe_phase2Block, lineSafe_phase3]

theorem lineSafe_conversionWait (p : Params) (d : Bool) : (conversionWait p).lineSafe d = true := by
  simp [conversionWait, Prog.lineSafe, lineSafe_convertWaits, lineSafe_phase2]

/-- Phase 1's block sends two of R87's bytes and leaves the line released. -/
theorem lineSafe_phase1Block (k : Prog) (d : Bool) : (phase1Block k).lineSafe d = k.lineSafe false := by
  have hskip : (instrOf (decodeWire Config.cmdSkipRom)).isSome = true := by decide
  have hconvert : (instrOf (decodeWire Config.cmdConvertT)).isSome = true := by decide
  rw [Bool.eq_iff_iff]
  simp [phase1Block, Prog.lineSafe, hskip, hconvert]

theorem lineSafe_readTemperatureProg (p : Params) (d : Bool) : (readTemperatureProg p).lineSafe d = true := by
  simp [readTemperatureProg, Prog.lineSafe, lineSafe_phase1Block, lineSafe_conversionWait]

/-- Whatever command starts, its micro-program is safe from a released line (R119). -/
theorem lineSafe_commandProg (i : Instr) : (commandProg i).lineSafe false = true := by
  cases i with
  | readTemperature => exact lineSafe_readTemperatureProg Config.params false
  | init => rfl
  | resetPulse => simp [commandProg, resetPulseProg, Prog.lineSafe]
  | writeBit b => simp [commandProg, writeBitProg, Prog.lineSafe]
  | readBit => simp [commandProg, readBitProg, Prog.lineSafe]
  | writeByte v => simp [commandProg, writeByteProg, Prog.lineSafe]
  | readByte => simp [commandProg, readByteProg, Prog.lineSafe]
  | delay n => rfl
  | decode => rfl
  | skipRomByte => rfl
  | convertTByte => rfl
  | readScratchpadByte => rfl

/-! #### Running a micro-program keeps the control state legal -/

/-- The state `run` may take the micro-program `k` on from: a command is running, started, and `k` is safe from the line's present
drive. -/
structure Runnable (k : Prog) (s : State) : Prop where
  busy : s.busy = true
  started : s.pend = false
  seq : s.seq ≠ .idle
  safe : k.lineSafe s.drive = true

/-- A safe micro-op leaves what follows it safe from the drive it leaves. -/
theorem lineSafe_applyOp (p : Params) {o : MicroOp} {k : Prog} {s : State} (h : (Prog.op o k).lineSafe s.drive = true) :
    k.lineSafe (applyOp p o s).drive = true := by
  cases o with
  | smp r => cases r <;> exact (Bool.and_eq_true_iff.mp h).2
  | setSeq q => exact (Bool.and_eq_true_iff.mp h).2
  | setPres f => cases f <;> exact h
  | _ => exact h

/-- A safe micro-op never takes SEQ to IDLE. -/
theorem seq_applyOp_ne_idle (p : Params) {o : MicroOp} {k : Prog} {s : State} (h : (Prog.op o k).lineSafe s.drive = true)
    (hs : s.seq ≠ .idle) : (applyOp p o s).seq ≠ .idle := by
  cases o with
  | setSeq q => exact bne_iff_ne.mp (Bool.and_eq_true_iff.mp h).1
  | smp r => cases r <;> exact hs
  | setPres f => cases f <;> exact hs
  | _ => exact hs

theorem Runnable.applyOp (p : Params) {o : MicroOp} {k : Prog} {s : State} (h : Runnable (.op o k) s) :
    Runnable k (applyOp p o s) := by
  obtain ⟨-, -, -, -, hpend, -, hbusy, -⟩ := applyOp_frame p o s
  exact ⟨hbusy.trans h.busy, hpend.trans h.started, seq_applyOp_ne_idle p h.safe h.seq, lineSafe_applyOp p h.safe⟩

/-- A completed command leaves the control state idle, if the line is released. -/
theorem controlInv_complete {s : State} (h : s.drive = false) : ControlInv (complete s) := by
  simp [ControlInv, h, Position.lineSafe]

/-- A command under way, standing at a safe position of its micro-program. -/
theorem controlInv_of_position {s : State} (hbusy : s.busy = true) (hpend : s.pend = false) (hseq : s.seq ≠ .idle)
    (hmp : s.mp ≠ .empty) (hsafe : s.mp.lineSafe s.drive = true) : ControlInv s := by
  simp [ControlInv, hbusy, hpend, hseq, hmp, hsafe]

/-- `run` leaves a legal control state: it completes with the line released, or stands at a WAIT or a wire byte from where the rest
is safe. -/
theorem controlInv_run (p : Params) {k : Prog} {s : State} (h : Runnable k s) : ControlInv (run p k s) := by
  refine run_induction p (R := Runnable) (Q := ControlInv) ?done ?op ?zero ?wait ?wire ?yes ?no k s h
  case done => exact fun t ht => controlInv_complete (by simpa [Prog.lineSafe] using ht.safe)
  case op => exact fun o k t ht => ht.applyOp p
  case zero => exact fun n k t ht => ⟨ht.busy, ht.started, ht.seq, ht.safe⟩
  case wait => exact fun n k t ht => controlInv_of_position ht.busy ht.started ht.seq nofun ht.safe
  case wire => exact fun b k t ht => controlInv_of_position ht.busy ht.started ht.seq nofun ht.safe
  case yes => exact fun f y n t ht _ => ⟨ht.busy, ht.started, ht.seq, (Bool.and_eq_true_iff.mp ht.safe).1⟩
  case no => exact fun f y n t ht _ => ⟨ht.busy, ht.started, ht.seq, (Bool.and_eq_true_iff.mp ht.safe).2⟩

/-! #### What a legal control state says of BUSY (R46) -/

theorem busy_of_pend {s : State} (h : ControlInv s) (hp : s.pend = true) : s.busy = true := by
  obtain ⟨hidle, -⟩ := h
  by_contra hb
  simp [hidle (Bool.eq_false_iff.mpr hb)] at hp

theorem busy_of_drive {s : State} (h : ControlInv s) (hd : s.drive = true) : s.busy = true := by
  obtain ⟨hidle, -⟩ := h
  by_contra hb
  simp [hidle (Bool.eq_false_iff.mpr hb)] at hd

theorem busy_of_mp_ne_empty {s : State} (h : ControlInv s) (hmp : s.mp ≠ .empty) : s.busy = true := by
  obtain ⟨hidle, -⟩ := h
  by_contra hb
  simp [hidle (Bool.eq_false_iff.mpr hb)] at hmp

/-! #### Every step keeps the control state legal -/

/-- Where a legal control state stands in a micro-program, any program that is safe from its drive may run. -/
theorem runnable_of_position {k : Prog} {s : State} (h : ControlInv s) (hmp : s.mp ≠ .empty) (hk : k.lineSafe s.drive = true) :
    Runnable k s := by
  have hb := busy_of_mp_ne_empty h hmp
  obtain ⟨-, hseq, hpend, -, -⟩ := h
  have hp : s.pend = false := Bool.eq_false_iff.mpr fun hp => hmp (hpend hp).1
  exact ⟨hb, hp, hseq hb, hk⟩

/-- Completing a WAIT in progress keeps the control state legal (R44(c), (d)). -/
theorem controlInv_resume (p : Params) {s : State} (h : ControlInv s) : ControlInv (resume p s) := by
  cases hm : s.mp with
  | waiting k =>
    have hk : k.lineSafe s.drive = true := by
      obtain ⟨-, -, -, -, hsafe⟩ := h
      simpa [hm, Position.lineSafe] using hsafe
    rcases Nat.lt_or_ge s.tb.toNat s.wtgt with hlt | hge
    · rwa [resume_holds hm hlt]
    · rw [resume_completes hm hge]
      exact controlInv_run p (runnable_of_position h (by simp [hm]) hk)
  | empty => rwa [resume_idle (by simp [hm])]
  | atWire b k => rwa [resume_idle (by simp [hm])]

/-- Sending the wire byte the sequencer stands at keeps the control state legal (R44(d), R140). -/
theorem controlInv_sendFetchedByte {s s' : State} (h : ControlInv s) (hs : sendFetchedByte s = .next s') : ControlInv s' := by
  rcases sendFetchedByte_cases hs with ⟨-, rfl⟩ | ⟨b, k, i, hm, -, rfl⟩
  · exact h
  · have hk : s.mp.rest.lineSafe false = true := by
      obtain ⟨-, -, -, -, hsafe⟩ := h
      simp only [hm, Position.lineSafe, Bool.and_eq_true] at hsafe
      simpa [hm, Position.rest] using hsafe.2
    exact controlInv_run _ (runnable_of_position h (by simp [hm]) (by simpa using hk))

/-- Starting the pending command keeps the control state legal: its micro-program runs from a released line (R44(b)). -/
theorem controlInv_start {i : Instr} {s : State} (h : ControlInv s) (hp : s.pend = true) :
    ControlInv (start Config.params (commandProg i) s) := by
  have hb := busy_of_pend h hp
  obtain ⟨-, hseq, hpend, -, -⟩ := h
  obtain ⟨-, hdrive, -⟩ := hpend hp
  have hk : (commandProg i).lineSafe s.drive = true := hdrive ▸ lineSafe_commandProg i
  exact controlInv_run _ ⟨hb, rfl, hseq hb, hk⟩

/-- Every tick step keeps the control state legal (R44(2)). -/
theorem controlInv_tickStep {l : Bool} {s s' : State} (h : ControlInv s) (hs : tickStep l s = .next s') : ControlInv s' := by
  rcases tickStep_cases hs with ⟨-, rfl⟩ | ⟨-, hp, i, hd, he⟩ | ⟨-, -, he⟩
  · exact h
  · rw [exec_command hd] at he
    cases he
    exact controlInv_start (s := countTick l s) h hp
  · exact controlInv_sendFetchedByte (controlInv_resume Config.params (s := countTick l s) h) he

/-- No command's accept leaves SEQ at IDLE (R86). -/
theorem initialSeq_ne_idle (i : Instr) : initialSeq i ≠ .idle := by cases i <;> nofun

/-- The accept step keeps the control state legal: only an idle controller accepts a word, and only a legal one (R200). -/
theorem controlInv_acceptStep (w : Word) {s : State} (h : ControlInv s) : ControlInv (acceptStep w s) := by
  rcases acceptStep_cases w s with ⟨-, e⟩ | ⟨-, -, e⟩ | ⟨i, hb, hd, e⟩
  · exact e ▸ h
  · exact e ▸ h
  · obtain ⟨-, -, hmp, hdrive⟩ := h.1 hb
    simp [ControlInv, e, hmp, hdrive, hd, initialSeq_ne_idle, Position.lineSafe]

/-- A host write of any register keeps the control state legal: only CMD acts on it (R63). -/
theorem controlInv_writeReg (r : Reg) (v : Word) {s : State} (h : ControlInv s) : ControlInv (writeReg r v s) := by
  rcases writeReg_cases r v s with ⟨-, e⟩ | ⟨-, e⟩ | ⟨-, -, e⟩
  · exact e ▸ controlInv_acceptStep v h
  · exact e ▸ h
  · rwa [e]

/-- Whatever `rst` does, the control state stays legal (R230, R231). -/
theorem controlInv_driveRst (l : Bool) {s : State} (h : ControlInv s) : ControlInv (driveRst l s) := by
  cases l with
  | false => exact h
  | true => exact controlInv_underReset s

theorem controlInv_settle {s : State} (h : ControlInv s) : ControlInv (settle s) := by
  cases hr : s.rst with
  | false => rwa [settle_of_not_rst hr]
  | true => rw [settle_of_rst hr]; exact controlInv_underReset s

/-- Every input of the outside keeps the control state legal. -/
theorem controlInv_handle {e : Event} {s s' : State} (h : ControlInv s) (hs : handle e s = .next s') : ControlInv s' := by
  cases e with
  | tick l => exact controlInv_tickStep h hs
  | hostRead addr size =>
    obtain ⟨off, -, rfl⟩ := hostRead_cases hs
    exact h
  | hostWrite addr size v =>
    obtain ⟨off, -, rfl⟩ := hostWrite_cases hs
    split
    · exact h
    · exact controlInv_writeReg _ v h
  | rst l => cases hs; exact controlInv_driveRst l h

/-- The control state stays legal in every step that answers a next state. -/
theorem step_keeps_controlInv {s s' : State} (h : ControlInv s) (hs : step s = .next s') : ControlInv s' := by
  rcases step_cases hs with ⟨-, rfl⟩ | ⟨e, rest, -, he⟩
  · exact h
  · exact controlInv_handle (controlInv_settle (s := { s with inputs := rest }) h) he

/-- Settles O44: the four claims are read off `ControlInv`, which every step keeps. -/
theorem busySeqPendDriveAgree : Obligations.BusySeqPendDriveAgree := by
  unfold Obligations.BusySeqPendDriveAgree
  intro s s' h hs
  have hinv := step_keeps_controlInv h hs
  refine ⟨fun hb => ?_, busy_of_pend hinv, fun hq => ?_, busy_of_drive hinv⟩
  · obtain ⟨hidle, -⟩ := hinv
    obtain ⟨hpend, hseq, hmp, -⟩ := hidle hb
    exact ⟨hpend, hseq, by simp [hmp]⟩
  · obtain ⟨-, hbusy, -⟩ := hinv
    exact Bool.eq_false_iff.mpr fun hb => hbusy hb hq

end Sys2Proof.Machine

namespace Sys2Proof.Machine

/-! ### Proofs: the register window (R26 to R36, R60 to R64) -/

/-! #### What a register reads as, as a number -/

/-- A concatenation as a number: the left vector stands above the right one. -/
theorem append_toNat {m n : Nat} (x : BitVec m) (y : BitVec n) : (x ++ y).toNat = 2 ^ n * x.toNat + y.toNat := by
  rw [BitVec.toNat_append, ← Nat.shiftLeft_add_eq_or_of_lt y.isLt, Nat.shiftLeft_eq, Nat.mul_comm]

/-- STATUS has each field at its bit number and 0 in every reserved bit (R27). -/
theorem statusWord_toNat (s : State) : (statusWord s).toNat = statusValue s := by
  simp only [statusWord, statusValue, append_toNat, BitVec.toNat_ofBool, BitVec.toNat_ofNat]
  omega

/-- A read of SP0 or SP1 packs four bytes, the first lowest (R34). -/
theorem packed_toNat (b0 b1 b2 b3 : Byte) :
    (b3 ++ b2 ++ b1 ++ b0).toNat = b0.toNat + 2 ^ 8 * b1.toNat + 2 ^ 16 * b2.toNat + 2 ^ 24 * b3.toNat := by
  simp only [append_toNat]
  omega

/-- What each register reads as, by its offset (R26 to R36). -/
theorem readReg_regAt_toNat (s : State) (a : Nat) : (readReg (regAt a) s).toNat = windowValue s a := by
  unfold regAt
  split
  -- CMD reads 0.
  case h_1 => rfl
  -- STATUS.
  case h_2 => exact statusWord_toNat s
  -- DATA, TEMP_INT, TEMP_FRAC, TEMP_RAW, SP2 and TB_COUNT are read zero-extended.
  case h_3 | h_4 | h_5 | h_6 | h_9 | h_10 => exact BitVec.toNat_setWidth_of_le (by decide)
  -- SP0 and SP1.
  case h_7 | h_8 => exact packed_toNat ..
  -- At every other offset both sides are 0.
  case h_11 => simp_all [readReg, windowValue]

/-- Settles O12: the read answers the register's word, which is the number R26 to R36 build. -/
theorem hostReadReturnsTheRegister : Obligations.HostReadReturnsTheRegister := by
  unfold Obligations.HostReadReturnsTheRegister
  intro s rest a ha h4 hi hr
  have hframe : windowValue s a = windowValue { s with inputs := rest } a := rfl
  rw [step_hostRead hi hr ha h4, hframe, ← readReg_regAt_toNat, BitVec.ofNat_toNat, BitVec.setWidth_eq]

/-! #### What a write does -/

/-- A bit of STATUS that a 1 is written to is cleared, any other keeps its value (R27). -/
theorem writeStatus_eq (v : Word) (s : State) :
    writeStatus v s = { s with
      errIll := if v.getLsbD 8 then false else s.errIll
      errOvr := if v.getLsbD 9 then false else s.errOvr } := by
  have hclear (b c : Bool) : (b && !c) = if c then false else b := by cases c <;> simp
  rw [writeStatus, hclear, hclear]

/-- Settles O14: the three effects are the three cases of `writeReg_cases`, told apart by the offset. -/
theorem hostWriteActsAtCmdAndStatusOnly : Obligations.HostWriteActsAtCmdAndStatusOnly := by
  unfold Obligations.HostWriteActsAtCmdAndStatusOnly
  intro s rest a v ha h4 hi hr
  rw [step_hostWrite hi hr ha h4]
  refine ⟨fun h0 => ?_, fun h1 => ?_, fun h0 h1 => ?_⟩
  · rw [regAt_cmd.mpr h0, writeReg]
  · rw [regAt_status.mpr h1, writeReg, writeStatus_eq]
  · rcases writeReg_cases (regAt a) v { s with inputs := rest } with ⟨h, -⟩ | ⟨h, -⟩ | ⟨-, -, e⟩
    · exact absurd (regAt_cmd.mp h) h0
    · exact absurd (regAt_status.mp h) h1
    · rw [e]

/-! #### Which accesses are defined -/

/-- A step on an input sees the state that `rst` holds it at (R230). -/
theorem step_of_inputs {s : State} {e : Event} {rest : List Event} (h : s.inputs = e :: rest) :
    step s = handle e (settle { s with inputs := rest }) := by
  rw [step, h]

/-- An access that R64 does not define names no offset. -/
theorem accessOffset_refused {p : Params} {addr size : Nat}
    (h : ¬ (size = 4 ∧ p.base ≤ addr ∧ addr < p.base + 0x40 ∧ (addr - p.base) % 4 = 0)) :
    ∃ r, accessOffset p addr size = .error r := by
  cases ho : accessOffset p addr size with
  | error r => exact ⟨r, rfl⟩
  | ok off => have := accessOffset_ok.mp ho; omega

/-- A read of a defined offset answers a state, whatever the state is (R62, R64). -/
theorem hostRead_of_offset {p : Params} {addr size off : Nat} (h : accessOffset p addr size = .ok off) (s : State) :
    ∃ t, hostRead p addr size s = .next t := by
  rw [hostRead, h]; exact ⟨_, rfl⟩

/-- A write of a defined offset answers a state, under reset or not (R63, R64, R230). -/
theorem hostWrite_of_offset {p : Params} {addr size off : Nat} (h : accessOffset p addr size = .ok off) (v : Word) (s : State) :
    ∃ t, hostWrite p addr size v s = .next t := by
  rw [hostWrite, h]; exact ⟨_, rfl⟩

theorem hostRead_of_refusal {p : Params} {addr size : Nat} {r : Refusal} (h : accessOffset p addr size = .error r) (s : State) :
    hostRead p addr size s = .refused r := by
  rw [hostRead, h]

theorem hostWrite_of_refusal {p : Params} {addr size : Nat} {r : Refusal} (h : accessOffset p addr size = .error r) (v : Word)
    (s : State) : hostWrite p addr size v s = .refused r := by
  rw [hostWrite, h]

/-- Settles O15: a read and a write are refused exactly where the access names no offset. -/
theorem undefinedAccessesAreRefused : Obligations.UndefinedAccessesAreRefused := by
  unfold Obligations.UndefinedAccessesAreRefused
  intro s rest addr size v
  refine ⟨fun ⟨hsize, hbase, hwin, halign⟩ => ?_, fun hno => ?_⟩
  · have ho : accessOffset Config.params addr size = .ok (addr - Config.base) :=
      accessOffset_ok.mpr ⟨hsize, hbase, rfl, by omega, halign⟩
    refine ⟨fun hi => ?_, fun hi => ?_⟩ <;> rw [step_of_inputs hi]
    · exact hostRead_of_offset ho _
    · exact hostWrite_of_offset ho v _
  · obtain ⟨r, hr⟩ := accessOffset_refused (p := Config.params) hno
    refine ⟨fun hi => ⟨r, ?_⟩, fun hi => ⟨r, ?_⟩⟩ <;> rw [step_of_inputs hi]
    · exact hostRead_of_refusal hr _
    · exact hostWrite_of_refusal hr v _

end Sys2Proof.Machine

namespace Sys2Proof.Machine

/-! ### Proofs: the encoding (R82 to R85, R90) -/

/-! #### Words by their fields -/

/-- Two words with the same four fields are the same word (R80). -/
theorem word_eq_iff {v w : Word} :
    v = w ↔ opOf v = opOf w ∧ rsvOf v = rsvOf w ∧ arg8Of v = arg8Of w ∧ arg16Of v = arg16Of w := by
  refine ⟨by rintro rfl; simp, fun ⟨hop, hrsv, h8, h16⟩ => BitVec.eq_of_toNat_eq ?_⟩
  rw [toNat_eq_fields v, toNat_eq_fields w, hop, hrsv, h8, h16]

/-- A row is hit field by field. -/
theorem hit_iff_fields {r : CmdRow} {w : Word} :
    r.hit w = true ↔
      opOf w &&& opOf r.mask = opOf r.matchBits ∧ rsvOf w &&& rsvOf r.mask = rsvOf r.matchBits ∧
      arg8Of w &&& arg8Of r.mask = arg8Of r.matchBits ∧ arg16Of w &&& arg16Of r.mask = arg16Of r.matchBits := by
  simp only [CmdRow.hit, beq_iff_eq, word_eq_iff, opOf, rsvOf, arg8Of, arg16Of, BitVec.extractLsb'_and]

/-! #### Legality by the fields -/

/-- The bits of ARG8 that are an operand of `op` (R82). -/
def operand8 (op : Nat) : Byte := if op = 3 then 0x01 else if op = 5 then 0xFF else 0

/-- The bits of ARG16 that are an operand of `op` (R82). -/
def operand16 (op : Nat) : Half := if op = 7 then 0xFFFF else 0

/-- Every bit outside OP that is no operand of the word's OP is 0: none of R84(b), (c) and (d). -/
def SpareBitsZero (w : Word) : Prop :=
  rsvOf w = 0 ∧ arg8Of w &&& ~~~operand8 (opOf w).toNat = 0 ∧ arg16Of w &&& ~~~operand16 (opOf w).toNat = 0

/-- A word is legal where its OP names a command and its spare bits are 0 (R81, R84). -/
theorem legal_iff {w : Word} :
    (∃ i, decode w = .ok i) ↔ (1 ≤ (opOf w).toNat ∧ (opOf w).toNat ≤ 9) ∧ SpareBitsZero w := by
  unfold decode SpareBitsZero
  split
  -- Any other OP is illegal.
  case h_10 =>
    refine iff_of_false nofun fun ⟨hrange, _⟩ => ?_
    simp only [imp_false] at *
    omega
  -- Each of the nine commands checks the spare bits of its own OP.
  all_goals
    rename_i e
    simp [checkFields_ok, e, operand8, operand16]

/-! #### The table of R83 -/

/-- Every mask of the table covers OP, RSV and the argument bits that are no operand of the row's OP, and a match value is its OP
alone. -/
theorem cmdRows_fields : ∀ r ∈ cmdRows,
    (opOf r.mask = BitVec.allOnes 4 ∧ rsvOf r.mask = BitVec.allOnes 4 ∧
      arg8Of r.mask = ~~~operand8 (opOf r.matchBits).toNat ∧ arg16Of r.mask = ~~~operand16 (opOf r.matchBits).toNat) ∧
    rsvOf r.matchBits = 0 ∧ arg8Of r.matchBits = 0 ∧ arg16Of r.matchBits = 0 := by decide

/-- No two rows of the table have the same OP (R85). -/
theorem cmdRows_op_injective : ∀ r ∈ cmdRows, ∀ r' ∈ cmdRows, opOf r.matchBits = opOf r'.matchBits → r = r' := by decide

/-- The OPs of the table are 1 to 9 (R81). -/
theorem cmdRows_op_range : ∀ r ∈ cmdRows, 1 ≤ (opOf r.matchBits).toNat ∧ (opOf r.matchBits).toNat ≤ 9 := by decide

/-- A word hits a row of the table where the OP is the row's and the spare bits are 0. -/
theorem hit_iff {r : CmdRow} (hr : r ∈ cmdRows) {w : Word} :
    r.hit w = true ↔ opOf w = opOf r.matchBits ∧ SpareBitsZero w := by
  obtain ⟨⟨mop, mrsv, m8, m16⟩, vrsv, v8, v16⟩ := cmdRows_fields r hr
  rw [hit_iff_fields, mop, mrsv, m8, m16, vrsv, v8, v16, BitVec.and_allOnes, BitVec.and_allOnes]
  refine and_congr_right fun hop => ?_
  rw [SpareBitsZero, hop]

/-- What a word decodes to has the mnemonic of the table's row with the word's OP. -/
theorem row_of_decode {w : Word} {i : Instr} (h : decode w = .ok i) :
    ∃ r ∈ cmdRows, opOf w = opOf r.matchBits ∧ r.mnemonic = i.mnemonic := by
  obtain ⟨-, hi⟩ := decode_cases h
  rcases hi with ⟨rfl, hop, -⟩ | ⟨rfl, hop, -⟩ | ⟨rfl, hop, -⟩ | ⟨rfl, hop, -⟩ | ⟨rfl, hop, -⟩ | ⟨rfl, hop, -⟩ |
    ⟨rfl, hop, -⟩ | ⟨rfl, hop, -⟩ | ⟨rfl, hop, -⟩ <;>
  · rw [hop, Instr.mnemonic]; decide

/-- The row of its own mnemonic is hit by a legal word (R83). -/
theorem own_row_hit {w : Word} {i : Instr} (h : decode w = .ok i) :
    ∃ r ∈ cmdRows, r.hit w = true ∧ r.mnemonic = i.mnemonic := by
  obtain ⟨r, hr, hop, hm⟩ := row_of_decode h
  exact ⟨r, hr, (hit_iff hr).mpr ⟨hop, (legal_iff.mp ⟨i, h⟩).2⟩, hm⟩

/-- A word that hits a row is legal (R83). -/
theorem legal_of_hit {r : CmdRow} (hr : r ∈ cmdRows) {w : Word} (h : r.hit w = true) : ∃ i, decode w = .ok i := by
  obtain ⟨hop, hspare⟩ := (hit_iff hr).mp h
  exact legal_iff.mpr ⟨hop ▸ cmdRows_op_range r hr, hspare⟩

/-- Settles O3: a hit is a matter of the fields (`hit_iff`), and so is legality (`legal_iff`); two rows that are hit have the word's
OP, and no OP stands in two rows. -/
theorem legalWordsMatchExactlyOneRow : Obligations.LegalWordsMatchExactlyOneRow := by
  unfold Obligations.LegalWordsMatchExactlyOneRow
  refine fun w => ⟨⟨fun ⟨i, h⟩ => ?_, fun ⟨r, hr, h⟩ => legal_of_hit hr h⟩, fun i => own_row_hit, fun r hr r' hr' h h' => ?_⟩
  · obtain ⟨r, hr, hhit, -⟩ := own_row_hit h
    exact ⟨r, hr, hhit⟩
  · obtain ⟨hop, -⟩ := (hit_iff hr).mp h
    obtain ⟨hop', -⟩ := (hit_iff hr').mp h'
    exact cmdRows_op_injective r hr r' hr' (hop.symm.trans hop')

/-! #### The illegal words -/

theorem and_not_zero {n : Nat} (x : BitVec n) : x &&& ~~~(0 : BitVec n) = x := by simp

/-- WRITE_BIT has no use for the bits of ARG8 above bit 0. -/
theorem and_not_one_eq_zero {v : Byte} : v &&& ~~~0x01 = 0 ↔ v.toNat / 2 = 0 := by
  revert v; decide

theorem rsvOf_eq_zero_iff {w : Word} : rsvOf w = 0 ↔ w.toNat / 16 % 16 = 0 := by
  rw [← BitVec.toNat_inj, rsvOf_toNat]; rfl

theorem arg8Of_eq_zero_iff {w : Word} : arg8Of w = 0 ↔ w.toNat / 256 % 256 = 0 := by
  rw [← BitVec.toNat_inj, arg8Of_toNat]; rfl

theorem arg16Of_eq_zero_iff {w : Word} : arg16Of w = 0 ↔ w.toNat / 65536 = 0 := by
  rw [← BitVec.toNat_inj, arg16Of_toNat]; rfl

/-- ARG8 has no bit that the OP has no operand for: the words free of R84(c). -/
theorem arg8_spare_iff {w : Word} :
    arg8Of w &&& ~~~operand8 (opOf w).toNat = 0 ↔
      (w.toNat % 16 = 3 → w.toNat / 512 % 128 = 0) ∧ (w.toNat % 16 ≠ 3 → w.toNat % 16 ≠ 5 → w.toNat / 256 % 256 = 0) := by
  rw [opOf_toNat, operand8]
  split_ifs with h3 h5
  · rw [and_not_one_eq_zero, arg8Of_toNat]
    omega
  · simp [h5]
  · rw [and_not_zero, arg8Of_eq_zero_iff]
    omega

/-- ARG16 has no bit that the OP has no operand for: the words free of R84(d). -/
theorem arg16_spare_iff {w : Word} :
    arg16Of w &&& ~~~operand16 (opOf w).toNat = 0 ↔ (w.toNat % 16 ≠ 7 → w.toNat / 65536 = 0) := by
  rw [opOf_toNat, operand16]
  split_ifs with h7
  · simp [h7]
  · rw [and_not_zero, arg16Of_eq_zero_iff]
    omega

/-- A word is illegal for one of R84's four causes and no other. -/
theorem illegal_iff {w : Word} :
    (∀ i, decode w ≠ .ok i) ↔
      (w.toNat % 16 = 0 ∨ 10 ≤ w.toNat % 16) ∨
      w.toNat / 16 % 16 ≠ 0 ∨
      (w.toNat / 256 % 256 ≠ 0 ∧ w.toNat % 16 ≠ 3 ∧ w.toNat % 16 ≠ 5) ∨
      (w.toNat / 512 % 128 ≠ 0 ∧ w.toNat % 16 = 3) ∨
      (w.toNat / 65536 ≠ 0 ∧ w.toNat % 16 ≠ 7) := by
  rw [← not_exists, legal_iff, SpareBitsZero, arg8_spare_iff, arg16_spare_iff, opOf_toNat, rsvOf_eq_zero_iff]
  omega

/-- A write of CMD is the accept step, the controller not under reset (R63). -/
theorem step_cmdWrite {s : State} {rest : List Event} {w : Word}
    (hi : s.inputs = .hostWrite Config.base 4 w :: rest) (hr : s.rst = false) :
    step s = .next (acceptStep w { s with inputs := rest }) :=
  step_hostWrite (a := 0) hi hr (by decide) rfl

/-- An illegal word that an idle controller is given only raises ERR_ILL (R200). -/
theorem acceptStep_illegal {w : Word} {s : State} (hb : s.busy = false) (hw : ∀ i, decode w ≠ .ok i) :
    acceptStep w s = raise .ill s := by
  rcases acceptStep_cases w s with ⟨hbusy, -⟩ | ⟨-, -, e⟩ | ⟨i, -, hd, -⟩
  · simp [hb] at hbusy
  · exact e
  · exact absurd hd (hw i)

/-- Settles O4: the causes are what `legal_iff` leaves out, read as numbers; the effect is the second case of R200. -/
theorem illegalWordsAreTheFourCauses : Obligations.IllegalWordsAreTheFourCauses := by
  unfold Obligations.IllegalWordsAreTheFourCauses
  refine fun w => ⟨illegal_iff, fun s rest hi hr hb hw => ?_⟩
  rw [step_cmdWrite hi hr, acceptStep_illegal (s := { s with inputs := rest }) hb hw, raise]

/-! #### The worked encodings -/

/-- The illegal words R90 lists, each with the cause R90 gives. -/
theorem listed_illegal_words :
    decode 0x00000000 = .error .illegalOp ∧ decode 0x00000203 = .error .arg8Bits ∧ decode 0x00010002 = .error .arg16Bits ∧
    decode 0x00000012 = .error .reservedBits ∧ decode 0x0000000A = .error .illegalOp := by decide

/-- Settles O6: each worked encoding is evaluated both ways, and each illegal word has its cause. -/
theorem workedEncodingsDecode : Obligations.WorkedEncodingsDecode := by
  unfold Obligations.WorkedEncodingsDecode
  refine ⟨⟨rfl, rfl⟩, ⟨rfl, rfl⟩, ⟨rfl, rfl⟩, ⟨rfl, rfl⟩, ⟨rfl, rfl⟩, ⟨rfl, rfl⟩, ⟨rfl, rfl⟩, ?_⟩
  obtain ⟨h0, h8, h16, hrsv, hop⟩ := listed_illegal_words
  simp only [List.forall_mem_cons, h0, h8, h16, hrsv, hop, instrOf_error, true_and]
  exact List.forall_mem_nil _

end Sys2Proof.Machine

namespace Sys2Proof.Machine

/-! ### Proofs: a WAIT and the reset pulse (R100 to R102, R110, R111) -/

/-! #### The duration of a WAIT -/

/-- `s` when `j` ticks of a WAIT with target `w` have passed, MP aside: TB counts them, GT and the input level move
along (R43, R100). -/
def waited (lv : Nat → Bool) (w j : Nat) (s : State) : State :=
  { s with tb := BitVec.ofNat 16 j, wtgt := w, gt := s.gt + j, owIn := if j = 0 then s.owIn else lv (s.gt + j) }

/-- A WAIT starts with none of its ticks passed (R100). -/
theorem startWait_eq_waited (p : Params) (lv : Nat → Bool) (n : Half) (s : State) :
    startWait p n s = waited lv (n.toNat + p.waitExtra) 0 s := rfl

/-- One more tick has passed (R44(a)). -/
theorem countTick_waited (lv : Nat → Bool) (w j : Nat) (s : State) (m : Position) :
    countTick (lv (s.gt + j + 1)) { waited lv w j s with mp := m } = { waited lv w (j + 1) s with mp := m } := by
  simp [countTick, waited, BitVec.ofNat_add, Nat.add_assoc]

theorem waited_tb_toNat (lv : Nat → Bool) (w : Nat) (s : State) {j : Nat} (hj : j < 2 ^ 16) : (waited lv w j s).tb.toNat = j :=
  BitVec.toNat_ofNat .. ▸ Nat.mod_eq_of_lt hj

/-- One more tick of a run that stands in a WAIT. -/
theorem coast_succ_waited {p : Params} {lv : Nat → Bool} {w j : Nat} {r s : State} {m : Position}
    (h : coast p lv j r = { waited lv w j s with mp := m }) :
    coast p lv (j + 1) r = resume p { waited lv w (j + 1) s with mp := m } := by
  rw [coast_add, h]
  exact congrArg (resume p) (countTick_waited lv w j s m)

section
variable {p : Params} {n : Count} {s : State} {w : Nat}

/-- While a WAIT holds, only its ticks are counted (R100). -/
theorem coast_wait_holds (lv : Nat → Bool) (k : Prog) (hw : (n.value s).toNat + p.waitExtra = w) (hlt : w < 2 ^ 16) {j : Nat}
    (hj : j < w) : coast p lv j (run p (.wait n k) s) = { waited lv w j s with mp := .waiting k } := by
  induction j with
  | zero => rw [coast, run_wait_holds (by omega), startWait_eq_waited p lv, hw]
  | succ j ih =>
    rw [coast_succ_waited (ih (by omega))]
    exact resume_holds rfl ((waited_tb_toNat lv w s (by omega)).trans_lt hj)

/-- What follows a WAIT runs in the tick step in which TB reaches the target, at once where the target is 0 (R100, R102). -/
theorem coast_wait (lv : Nat → Bool) (k : Prog) (hw : (n.value s).toNat + p.waitExtra = w) (hlt : w < 2 ^ 16) :
    coast p lv w (run p (.wait n k) s) = run p k (waited lv w w s) := by
  cases w with
  | zero => rw [coast, run_wait_zero hw, startWait_eq_waited p lv, hw]
  | succ j =>
    rw [coast_succ_waited (coast_wait_holds lv k hw hlt (Nat.lt_succ_self j)),
      resume_completes rfl (waited_tb_toNat lv (j + 1) s hlt).ge, run_mp]

/-- A coast that outlasts a WAIT goes on with what follows it. -/
theorem coast_wait_add (lv : Nat → Bool) (k : Prog) (m : Nat) (hw : (n.value s).toNat + p.waitExtra = w) (hlt : w < 2 ^ 16) :
    coast p lv (w + m) (run p (.wait n k) s) = coast p lv m (run p k (waited lv w w s)) := by
  rw [coast_add, coast_wait lv k hw hlt]

end

/-! #### ResetPresence -/

/-- The state `ResetPresence()` started in `s` hands on: the two samples taken, their four line events recorded (R110). -/
def resetPresenceEnd (lv : Nat → Bool) (s : State) : State :=
  { s with drive := false, s1 := lv (s.gt + 550), s2 := lv (s.gt + 960), trace := s.trace ++ resetTrace lv s.gt
           tb := 410, wtgt := 410, gt := s.gt + 960, owIn := lv (s.gt + 960) }

/-- `ResetPresence()` takes 960 ticks, whatever runs after it (R110). -/
theorem coast_resetPresence (lv : Nat → Bool) (k : Prog) (s : State) :
    coast Config.params lv 960 (run Config.params (resetPresence Config.params k) s) =
      run Config.params k (resetPresenceEnd lv s) := by
  rw [show 960 = 480 + (70 + 410) from rfl, resetPresence, run_op, coast_wait_add (w := 480) lv _ _ rfl (by decide), run_op,
    coast_wait_add (w := 70) lv _ _ rfl (by decide), run_op, coast_wait (w := 410) lv _ rfl (by decide), run_op]
  congr 1
  simp [resetPresenceEnd, waited, applyOp, pullLow, release, sample, resetTrace, Nat.add_assoc]

/-- The end of a reset pulse shows no level but the two sampled (R111). -/
theorem resetPresenceEnd_congr {lv lv' : Nat → Bool} {s : State} (h1 : lv' (s.gt + 550) = lv (s.gt + 550))
    (h2 : lv' (s.gt + 960) = lv (s.gt + 960)) : resetPresenceEnd lv' s = resetPresenceEnd lv s := by
  simp only [resetPresenceEnd, resetTrace, h1, h2]

/-- The result of a reset pulse, by its two samples (R110). -/
theorem presence_resetPresenceEnd (lv : Nat → Bool) (s : State) :
    presence (resetPresenceEnd lv s) = presenceAt lv s.gt := rfl

/-- Settles O26: the run ends in `resetPresenceEnd`, which reads the levels at the two samples only, and each row of the table is the
value of its `presence`. -/
theorem presenceNeedsLowThenHigh : Obligations.PresenceNeedsLowThenHigh := by
  unfold Obligations.PresenceNeedsLowThenHigh
  intro s lv
  refine ⟨resetPresenceEnd lv s, fun lv' k h1 h2 => ?_, ?_⟩
  · rw [coast_resetPresence, resetPresenceEnd_congr h1 h2]
  · rw [presence_resetPresenceEnd, presenceAt]
    refine ⟨?lowHigh, ?lowLow, ?highHigh, ?highLow⟩ <;> intro h1 h2 <;> rw [h1, h2] <;> rfl

end Sys2Proof.Machine

namespace Sys2Proof.Machine

/-! ### Proofs: the read slots and ReadByte (R116, R141, R142) -/

/-! #### Where no wire byte is ahead, the steps of the machine are the ticks of `coast` -/

/-- What is left of a micro-program sends no 1-Wire command byte: any but READ_TEMPERATURE's (R152, R155). -/
def Prog.wireFree : Prog → Bool
  | .done => true
  | .op _ k => k.wireFree
  | .wait _ k => k.wireFree
  | .wire _ _ => false
  | .ifPres _ yes no => yes.wireFree && no.wireFree

/-- The same of a position. -/
def Position.wireFree : Position → Bool
  | .empty => true
  | .waiting k => k.wireFree
  | .atWire _ _ => false

/-- A micro-program without wire bytes stops at none. -/
theorem wireFree_run (p : Params) {k : Prog} (s : State) (hk : k.wireFree = true) : (run p k s).mp.wireFree = true := by
  refine run_induction p (R := fun k _ => k.wireFree = true) (Q := fun t => t.mp.wireFree = true)
    ?done ?op ?zero ?wait ?wire ?yes ?no k s hk
  case done => exact fun _ _ => rfl
  case op => exact fun _ _ _ h => h
  case zero => exact fun _ _ _ h => h
  case wait => exact fun _ _ _ h => h
  case wire => exact fun _ _ _ h => absurd h Bool.false_ne_true
  case yes => exact fun _ _ _ _ h _ => (Bool.and_eq_true_iff.mp h).1
  case no => exact fun _ _ _ _ h _ => (Bool.and_eq_true_iff.mp h).2

/-- The controller carries on a micro-program without wire bytes, or none. -/
structure WireFree (s : State) : Prop where
  running : s.rst = false
  started : s.pend = false
  free : s.mp.wireFree = true

theorem WireFree.run (p : Params) {k : Prog} {s : State} (hr : s.rst = false) (hp : s.pend = false) (hk : k.wireFree = true) :
    WireFree (run p k s) := by
  obtain ⟨hrst, -, -, -, -, -, hpend, -⟩ := run_frame p k s
  exact ⟨hrst.trans hr, Bool.eq_false_iff.mpr fun h => by simp [hpend h] at hp, wireFree_run p s hk⟩

theorem WireFree.resume (p : Params) {s : State} (h : WireFree s) : WireFree (resume p s) := by
  cases hm : s.mp with
  | waiting k =>
    have hk : k.wireFree = true := by simpa [hm, Position.wireFree] using h.free
    rcases Nat.lt_or_ge s.tb.toNat s.wtgt with hlt | hge
    · rwa [resume_holds hm hlt]
    · rw [resume_completes hm hge]
      exact .run p h.running h.started hk
  | empty => rwa [resume_idle (by simp [hm])]
  | atWire b k => rwa [resume_idle (by simp [hm])]

theorem WireFree.countTick {s : State} (h : WireFree s) (l : Bool) : WireFree (countTick l s) :=
  ⟨h.running, h.started, h.free⟩

/-- At no wire byte, no byte is sent. -/
theorem WireFree.sendFetchedByte_eq {s : State} (h : WireFree s) : sendFetchedByte s = .next s := by
  obtain ⟨-, -, hfree⟩ := h
  cases hm : s.mp with
  | atWire b k => simp [hm, Position.wireFree] at hfree
  | empty => simp [sendFetchedByte, hm]
  | waiting k => simp [sendFetchedByte, hm]

/-- A run of ticks is a coast: each is the counting and what the WAIT in progress does (R44(a), (c), (d)). -/
theorem WireFree.ticks_eq_coast {s : State} (h : WireFree s) (lv : Nat → Bool) (n : Nat) :
    ticks lv n s = .next (coast Config.params lv n s) := by
  induction n generalizing s with
  | zero => rfl
  | succ n ih =>
    have hnext := (h.countTick (lv (s.gt + 1))).resume Config.params
    rw [ticks_succ_next ((tickOnce_running h.running h.started).trans hnext.sendFetchedByte_eq), ih hnext, coast]

/-- A command without wire bytes completes where the coast of its micro-program ends. -/
theorem completes_of_coast {i : Instr} {k : Prog} {s u : State} {lv : Nat → Bool} {n : Nat}
    (hi : exec i s = .next (start Config.params k s)) (hr : s.rst = false) (hk : k.wireFree = true)
    (hu : coast Config.params lv n (run Config.params k { s with pend := false }) = u) : Completes i s lv n u :=
  ⟨_, hi, hu ▸ (WireFree.run Config.params (s := { s with pend := false }) hr rfl hk).ticks_eq_coast lv n⟩

/-! #### ReadBit -/

/-- The state `ReadBit()` started in `s` hands on: the sample in RB, its three line events recorded (R116). -/
def readBitEnd (lv : Nat → Bool) (s : State) : State :=
  { s with drive := false, rb := lv (s.gt + 10), trace := s.trace ++ readBitTrace lv s.gt
           tb := 55, wtgt := 55, gt := s.gt + 65, owIn := lv (s.gt + 65) }

/-- `ReadBit()` takes 65 ticks, whatever runs after it (R116). -/
theorem coast_readBit (lv : Nat → Bool) (k : Prog) (s : State) :
    coast Config.params lv 65 (run Config.params (readBit Config.params k) s) = run Config.params k (readBitEnd lv s) := by
  rw [show 65 = 5 + (5 + 55) from rfl, readBit, run_op, coast_wait_add (w := 5) lv _ _ rfl (by decide), run_op,
    coast_wait_add (w := 5) lv _ _ rfl (by decide), run_op, coast_wait (w := 55) lv _ rfl (by decide)]
  congr 1
  simp [readBitEnd, waited, applyOp, pullLow, release, sample, readBitTrace, Nat.add_assoc]

/-! #### The slots of a byte -/

/-- One of ReadByte's slots: a bit read and shifted in (R141). -/
def readSlot (lv : Nat → Bool) (s : State) : State := shiftIn (readBitEnd lv s)

/-- `n` read slots take 65 ticks each, whatever runs after them (R141). -/
theorem coast_slotsIn (lv : Nat → Bool) (k : Prog) (n : Nat) (s : State) :
    coast Config.params lv (65 * n) (run Config.params (slotsIn Config.params n k) s) =
      run Config.params k ((readSlot lv)^[n] s) := by
  induction n generalizing s with
  | zero => rfl
  | succ n ih => rw [Nat.mul_succ, Nat.add_comm, coast_add, slotsIn, coast_readBit, run_op]; exact ih _

/-- SHIFT, `v` before, when `n` read slots from time `t` on have shifted their samples in (R141). -/
def shiftedIn (lv : Nat → Bool) (t : Nat) (v : Byte) : Nat → Byte
  | 0 => v
  | n + 1 => (shiftedIn lv t v n >>> 1) ||| ((BitVec.ofBool (lv (t + 65 * n + 10))).setWidth 8 <<< 7)

/-- A slot puts its sample in bit 7 and moves every other bit down. -/
theorem getLsbD_shiftedIn_succ (lv : Nat → Bool) (t : Nat) (v : Byte) (n : Nat) {j : Nat} (hj : j < 8) :
    (shiftedIn lv t v (n + 1)).getLsbD j =
      if j = 7 then lv (t + 65 * n + 10) else (shiftedIn lv t v n).getLsbD (j + 1) := by
  split_ifs with h7
  · simp [shiftedIn, h7]
  · have hlow : j < 7 := by omega
    simp [shiftedIn, hlow, Nat.add_comm]

/-- The samples stand in the uppermost bits, the last one in bit 7. -/
theorem getLsbD_shiftedIn (lv : Nat → Bool) (t : Nat) (v : Byte) {n i : Nat} (hn : n ≤ 8) (hi : i < n) :
    (shiftedIn lv t v n).getLsbD (8 - n + i) = lv (t + 65 * i + 10) := by
  induction n with
  | zero => exact absurd hi (Nat.not_lt_zero i)
  | succ n ih =>
    rw [getLsbD_shiftedIn_succ lv t v n (by omega)]
    rcases Nat.lt_succ_iff_lt_or_eq.mp hi with hlt | rfl
    · rw [if_neg (by omega), show 8 - (n + 1) + i + 1 = 8 - n + i by omega, ih (by omega) hlt]
    · rw [if_pos (by omega)]

/-- Bit `i` of a byte read is the i-th sample (R141). -/
theorem getLsbD_byteAt (lv : Nat → Bool) (t : Nat) {i : Nat} (hi : i < 8) :
    (byteAt lv t).getLsbD i = lv (t + 65 * i + 10) := by
  simp [byteAt, hi]

/-- Eight slots leave the byte of their samples, whatever SHIFT held before (R141). -/
theorem shiftedIn_eight (lv : Nat → Bool) (t : Nat) (v : Byte) : shiftedIn lv t v 8 = byteAt lv t := by
  refine BitVec.eq_of_getLsbD_eq fun i hi => ?_
  rw [getLsbD_byteAt lv t hi, ← getLsbD_shiftedIn lv t v (Nat.le_refl 8) hi, Nat.sub_self, Nat.zero_add]

/-- What `n + 1` read slots leave, every field. -/
theorem iterate_readSlot (lv : Nat → Bool) (n : Nat) (s : State) :
    (readSlot lv)^[n + 1] s =
      { s with drive := false, rb := lv (s.gt + 65 * n + 10), shift := shiftedIn lv s.gt s.shift (n + 1)
               bitcnt := s.bitcnt + (n + 1), tb := 55, wtgt := 55, gt := s.gt + 65 * (n + 1), owIn := lv (s.gt + 65 * (n + 1))
               trace := s.trace ++ (List.range (n + 1)).flatMap fun i => readBitTrace lv (s.gt + 65 * i) } := by
  induction n with
  | zero => simp [readSlot, readBitEnd, shiftIn, shiftedIn]
  | succ n ih =>
    rw [Function.iterate_succ_apply', ih, List.range_succ (n := n + 1)]
    simp [readSlot, readBitEnd, shiftIn, shiftedIn, Nat.add_assoc, Nat.mul_add]

/-! #### ReadByte -/

/-- The state `ReadByte()` started in `s` hands on: the byte of the eight samples in SHIFT, their line events recorded (R141). -/
def readByteEnd (lv : Nat → Bool) (s : State) : State :=
  { s with drive := false, rb := lv (s.gt + 465), shift := byteAt lv s.gt, bitcnt := 8, trace := s.trace ++ readByteTrace lv s.gt
           tb := 55, wtgt := 55, gt := s.gt + 520, owIn := lv (s.gt + 520) }

/-- `ReadByte()` takes 520 ticks, whatever runs after it (R141). -/
theorem coast_readByte (lv : Nat → Bool) (k : Prog) (s : State) :
    coast Config.params lv 520 (run Config.params (readByte Config.params k) s) = run Config.params k (readByteEnd lv s) := by
  have h := coast_slotsIn lv k 8 (loadShift 0x00 s)
  rw [iterate_readSlot lv 7, shiftedIn_eight] at h
  simpa [readByte, applyOp, readByteEnd, readByteTrace, loadShift, Nat.add_assoc] using h

/-- READ_BYTE ends where its ReadByte does, with the result in DATA (R141). -/
theorem completes_readByte {s : State} (lv : Nat → Bool) (hr : s.rst = false) :
    Completes .readByte s lv 520 (complete { readByteEnd lv s with data := byteAt lv s.gt }) :=
  completes_of_coast (k := readByteProg Config.params) rfl hr rfl (coast_readByte lv _ _)

/-- A line that draws the bits of `v` makes `v` the byte read (R142). -/
theorem byteAt_eq {lv : Nat → Bool} {t : Nat} {v : Byte} (h : ∀ i, i < 8 → lv (t + 65 * i + 10) = v.getLsbD i) :
    byteAt lv t = v :=
  BitVec.eq_of_getLsbD_eq fun i hi => (getLsbD_byteAt lv t hi).trans (h i hi)

/-- Settles O32: ReadByte leaves the byte of its samples in SHIFT, READ_BYTE leaves it in DATA too, and the line draws `v`. -/
theorem readByteInvertsWriteByte : Obligations.ReadByteInvertsWriteByte := by
  unfold Obligations.ReadByteInvertsWriteByte
  intro v s lv hdraw
  have hv : byteAt lv s.gt = v := byteAt_eq hdraw
  exact ⟨⟨readByteEnd lv s, hv, fun k => coast_readByte lv k s⟩, fun hr => ⟨_, completes_readByte lv hr, hv⟩⟩

end Sys2Proof.Machine

namespace Sys2Proof.Machine

/-! ### Proofs: the write slots and WriteByte (R114, R140) -/

/-! #### WriteBit -/

/-- The state `WriteBit()` of the bit `b` started in `s` hands on: its two line events recorded (R114). -/
def writeBitEnd (lv : Nat → Bool) (b : Bool) (s : State) : State :=
  { s with drive := false, trace := s.trace ++ writeBitTrace b s.gt, tb := if b then 65 else 10, wtgt := if b then 65 else 10
           gt := s.gt + 75, owIn := lv (s.gt + 75) }

/-- A WAIT by the bit being sent is of the count for that bit (R114). -/
theorem byBit_target {src : BitSource} {t : State} {b : Bool} (one zero : Half) (h : src.value t = b) :
    ((Count.byBit src one zero).value t).toNat + Config.params.waitExtra = if b then one.toNat else zero.toNat := by
  subst h
  rw [Count.value, apply_ite BitVec.toNat]
  rfl

/-- A write slot of the bit its source holds takes 75 ticks, whatever runs after it (R114). -/
theorem coast_writeBit (lv : Nat → Bool) (src : BitSource) (k : Prog) (s : State) :
    coast Config.params lv 75 (run Config.params (writeBit Config.params src k) s) =
      run Config.params k (writeBitEnd lv (src.value s) s) := by
  have hsrc (t : State) (h : t.shift = s.shift) : src.value t = src.value s := by
    cases src with
    | const b => rfl
    | shift0 => exact congrArg (BitVec.getLsbD · 0) h
  generalize src.value s = b at hsrc
  rw [show 75 = (if b then 10 else 65) + (if b then 65 else 10) by cases b <;> rfl, writeBit, run_op,
    coast_wait_add (w := if b then 10 else 65) lv _ _ ?low (by cases b <;> decide), run_op,
    coast_wait (w := if b then 65 else 10) lv _ ?high (by cases b <;> decide)]
  case low => exact byBit_target _ _ (hsrc _ rfl)
  case high => exact byBit_target _ _ (hsrc _ rfl)
  congr 1
  cases b <;> simp [writeBitEnd, waited, applyOp, pullLow, release, writeBitTrace, Nat.add_assoc]

/-! #### WriteByte -/

/-- One of WriteByte's slots: `SHIFT[0]` written and shifted out (R140). -/
def writeSlot (lv : Nat → Bool) (s : State) : State := shiftOut (writeBitEnd lv (s.shift.getLsbD 0) s)

/-- `n` write slots take 75 ticks each, whatever runs after them (R140). -/
theorem coast_slotsOut (lv : Nat → Bool) (k : Prog) (n : Nat) (s : State) :
    coast Config.params lv (75 * n) (run Config.params (slotsOut Config.params n k) s) =
      run Config.params k ((writeSlot lv)^[n] s) := by
  induction n generalizing s with
  | zero => rfl
  | succ n ih => rw [Nat.mul_succ, Nat.add_comm, coast_add, slotsOut, coast_writeBit, run_op]; exact ih _

/-- What `n + 1` write slots leave, every field: slot `i` has sent bit `i` (R140). -/
theorem iterate_writeSlot (lv : Nat → Bool) (n : Nat) (s : State) :
    (writeSlot lv)^[n + 1] s =
      { s with drive := false, shift := s.shift >>> (n + 1), bitcnt := s.bitcnt + (n + 1)
               tb := if s.shift.getLsbD n then 65 else 10, wtgt := if s.shift.getLsbD n then 65 else 10
               gt := s.gt + 75 * (n + 1), owIn := lv (s.gt + 75 * (n + 1))
               trace := s.trace ++ (List.range (n + 1)).flatMap fun i => writeBitTrace (s.shift.getLsbD i) (s.gt + 75 * i) } := by
  induction n with
  | zero => simp [writeSlot, writeBitEnd, shiftOut]
  | succ n ih =>
    rw [Function.iterate_succ_apply', ih, List.range_succ (n := n + 1)]
    simp [writeSlot, writeBitEnd, shiftOut, BitVec.shiftRight_add, Nat.add_assoc, Nat.mul_add]

/-- The state `WriteByte(v)` started in `s` hands on: `v` shifted out, the line events of its eight slots recorded (R140). -/
def writeByteEnd (lv : Nat → Bool) (v : Byte) (s : State) : State :=
  { s with drive := false, shift := 0, bitcnt := 8, trace := s.trace ++ writeByteTrace v s.gt
           tb := if v.getLsbD 7 then 65 else 10, wtgt := if v.getLsbD 7 then 65 else 10
           gt := s.gt + 600, owIn := lv (s.gt + 600) }

/-- `WriteByte(v)` takes 600 ticks, whatever runs after it (R140). -/
theorem coast_writeByte (lv : Nat → Bool) (v : Byte) (k : Prog) (s : State) :
    coast Config.params lv 600 (run Config.params (writeByte Config.params v k) s) =
      run Config.params k (writeByteEnd lv v s) := by
  have hempty : v >>> 8 = 0 := BitVec.ushiftRight_eq_zero (Nat.le_refl 8)
  have h := coast_slotsOut lv k 8 (loadShift v s)
  rw [iterate_writeSlot lv 7] at h
  simpa [writeByte, applyOp, writeByteEnd, writeByteTrace, loadShift, hempty] using h

end Sys2Proof.Machine

namespace Sys2Proof.Machine

/-! ### Proofs: micro-programs that send wire bytes (R44(d), R87, R152, R155) -/

/-! #### A micro-program with its wire bytes written out -/

/-- The micro-program with each wire byte replaced by the WriteByte that sends it (R140). -/
def Prog.writtenOut (p : Params) : Prog → Prog
  | .done => .done
  | .op o k => .op o (k.writtenOut p)
  | .wait n k => .wait n (k.writtenOut p)
  | .wire b k => writeByte p b (k.writtenOut p)
  | .ifPres f yes no => .ifPres f (yes.writtenOut p) (no.writtenOut p)

/-- The same of a position; at a wire byte the sequencer never stands between ticks. -/
def Position.writtenOut (p : Params) : Position → Position
  | .empty => .empty
  | .waiting k => .waiting (k.writtenOut p)
  | .atWire b k => .atWire b (k.writtenOut p)

/-- The same of a state: what is left of its micro-program is written out. -/
def State.writtenOut (p : Params) (s : State) : State := { s with mp := s.mp.writtenOut p }

section
variable (p : Params) (k : Prog)

theorem writtenOut_scratchpadReads (n : Nat) :
    (scratchpadReads p n k).writtenOut p = scratchpadReads p n (k.writtenOut p) := by
  induction n with
  | zero => rfl
  | succ n ih => exact congrArg (fun j => readByte p (.op .storeSp j)) ih

theorem writtenOut_convertWaits (n : Nat) : (convertWaits p n k).writtenOut p = convertWaits p n (k.writtenOut p) := by
  induction n with
  | zero => rfl
  | succ n ih => exact congrArg (fun j => Prog.wait (.ticks p.convertChunk) (.op .countLoop j)) ih

end

/-! #### The steps of the machine are the ticks of the written-out micro-program -/

/-- The sequencer is, between two ticks, in a micro-program that is safe from the line's present drive, or in none. -/
structure UnderWay (s : State) : Prop where
  running : s.rst = false
  started : s.pend = false
  betweenTicks : ∀ b k, s.mp ≠ .atWire b k
  safe : s.mp.lineSafe s.drive = true

/-- What `run` stops at is safe. -/
theorem lineSafe_run (p : Params) {k : Prog} {s : State} (h : k.lineSafe s.drive = true) :
    (run p k s).mp.lineSafe (run p k s).drive = true := by
  refine run_induction p (R := fun k t => k.lineSafe t.drive = true) (Q := fun t => t.mp.lineSafe t.drive = true)
    ?done ?op ?zero ?wait ?wire ?yes ?no k s h
  case done => exact fun _ _ => rfl
  case op => exact fun _ _ _ h => lineSafe_applyOp p h
  case zero => exact fun _ _ _ h => h
  case wait => exact fun _ _ _ h => h
  case wire => exact fun _ _ _ h => h
  case yes => exact fun _ _ _ _ h _ => (Bool.and_eq_true_iff.mp h).1
  case no => exact fun _ _ _ _ h _ => (Bool.and_eq_true_iff.mp h).2

/-- A WAIT that holds does so written out or not (R100). -/
theorem run_wait_writtenOut {p : Params} {n : Count} (k : Prog) {s : State} (h : (n.value s).toNat + p.waitExtra ≠ 0) :
    (∃ j, (run p (.wait n k) s).mp = .waiting j) ∧
    (run p (.wait n k) s).writtenOut p = run p (.wait n (k.writtenOut p)) s := by
  rw [run_wait_holds h, run_wait_holds h]
  exact ⟨⟨_, rfl⟩, rfl⟩

/-- A wire byte's send comes to hold in its first slot, written out or not (R140). -/
theorem run_writeByte (b : Byte) (k : Prog) (s : State) :
    (∃ j, (run Config.params (writeByte Config.params b k) s).mp = .waiting j) ∧
    (run Config.params (writeByte Config.params b k) s).writtenOut Config.params =
      run Config.params (writeByte Config.params b (k.writtenOut Config.params)) s := by
  refine run_wait_writtenOut (s := pullLow (loadShift b s)) _ ?_
  rw [Count.value]
  split <;> decide

/-- One tick's run of a safe micro-program: at a wire byte the byte is sent in the same step, as if it were written out (R44(d)). -/
theorem sendFetchedByte_run {k : Prog} {s : State} (hr : s.rst = false) (hp : s.pend = false) (hk : k.lineSafe s.drive = true) :
    ∃ t, sendFetchedByte (run Config.params k s) = .next t ∧ UnderWay t ∧
      t.writtenOut Config.params = run Config.params (k.writtenOut Config.params) s := by
  induction k generalizing s with
  | done => exact ⟨complete s, rfl, ⟨hr, rfl, nofun, rfl⟩, rfl⟩
  | op o k ih =>
    obtain ⟨hrst, -, -, -, hpend, -⟩ := applyOp_frame Config.params o s
    exact ih (hrst.trans hr) (hpend.trans hp) (lineSafe_applyOp Config.params hk)
  | wait n k ih =>
    rw [Prog.writtenOut]
    by_cases h0 : (n.value s).toNat + Config.params.waitExtra = 0
    · rw [run_wait_zero h0, run_wait_zero h0]
      exact ih hr hp hk
    · rw [run_wait_holds h0, run_wait_holds h0]
      exact ⟨_, rfl, ⟨hr, hp, nofun, hk⟩, rfl⟩
  | wire b k =>
    obtain ⟨hb, hsafe⟩ := Bool.and_eq_true_iff.mp hk
    obtain ⟨⟨j, hj⟩, hout⟩ := run_writeByte b k s
    obtain ⟨hrst, -, -, -, -, -, hpend, -⟩ := run_frame Config.params (writeByte Config.params b k) s
    have hsend : sendFetchedByte (run Config.params (.wire b k) s) = .next (run Config.params (writeByte Config.params b k) s) := by
      cases hd : decodeWire b with
      | ok i => rw [run_wire, sendFetchedByte]; simp [hd, exec_wire hd, sendWireByte, Position.rest, run_mp]
      | error e => simp [hd, instrOf] at hb
    refine ⟨_, hsend, ⟨hrst.trans hr, ?_, by simp [hj], lineSafe_run _ (by simpa using hsafe)⟩, hout⟩
    exact Bool.eq_false_iff.mpr fun h => by simp [hpend h] at hp
  | ifPres f yes no ihyes ihno =>
    obtain ⟨hyes, hno⟩ := Bool.and_eq_true_iff.mp hk
    rw [Prog.writtenOut, run_ifPres, run_ifPres]
    split
    · exact ihyes hr hp hyes
    · exact ihno hr hp hno

/-- One tick of the machine is one tick of the written-out micro-program (R44(a), (c), (d)). -/
theorem UnderWay.tickOnce {s : State} (h : UnderWay s) (lv : Nat → Bool) :
    ∃ t, tickOnce lv s = .next t ∧ UnderWay t ∧
      t.writtenOut Config.params = resume Config.params (countTick (lv (s.gt + 1)) (s.writtenOut Config.params)) := by
  obtain ⟨hr, hp, hwire, hk⟩ := h
  rw [tickOnce_running hr hp]
  cases hm : s.mp with
  | empty =>
    refine ⟨countTick (lv (s.gt + 1)) s, ?_, ⟨hr, hp, hwire, hk⟩, ?_⟩
    · rw [resume_idle (by simp [hm])]; simp [sendFetchedByte, hm]
    · rw [resume_idle (by simp [hm, State.writtenOut, Position.writtenOut])]; rfl
  | waiting k =>
    rw [hm] at hk
    have hout : (countTick (lv (s.gt + 1)) (s.writtenOut Config.params)).mp = .waiting (k.writtenOut Config.params) := by
      simp [State.writtenOut, hm, Position.writtenOut]
    rcases Nat.lt_or_ge (countTick (lv (s.gt + 1)) s).tb.toNat s.wtgt with hlt | hge
    · refine ⟨countTick (lv (s.gt + 1)) s, ?_, ⟨hr, hp, hwire, hm ▸ hk⟩, ?_⟩
      · rw [resume_holds (s := countTick _ s) hm hlt]; simp [sendFetchedByte, hm]
      · rw [resume_holds hout hlt]; rfl
    · rw [resume_completes (s := countTick _ s) hm hge, resume_completes hout hge,
        show countTick (lv (s.gt + 1)) (s.writtenOut Config.params) =
          { countTick (lv (s.gt + 1)) s with mp := s.mp.writtenOut Config.params } from rfl, run_mp _ (k.writtenOut _)]
      exact sendFetchedByte_run hr hp hk
  | atWire b k => exact absurd hm (hwire b k)

/-- A run of ticks is a coast of the written-out micro-program. -/
theorem UnderWay.ticks {s : State} (h : UnderWay s) (lv : Nat → Bool) (n : Nat) :
    ∃ u, ticks lv n s = .next u ∧ UnderWay u ∧
      u.writtenOut Config.params = coast Config.params lv n (s.writtenOut Config.params) := by
  induction n generalizing s with
  | zero => exact ⟨s, rfl, h, rfl⟩
  | succ n ih =>
    obtain ⟨t, htick, ht, hout⟩ := h.tickOnce lv
    rw [ticks_succ_next htick, coast, show (s.writtenOut Config.params).gt = s.gt from rfl, ← hout]
    exact ih ht

/-- Written out, no micro-program is still none, and some is some. -/
theorem writtenOut_mp_eq_empty {p : Params} {s : State} : (s.writtenOut p).mp = .empty ↔ s.mp = .empty := by
  cases hm : s.mp <;> simp [State.writtenOut, Position.writtenOut, hm]

/-- Where no micro-program is left, nothing is written out. -/
theorem writtenOut_of_empty {p : Params} {s : State} (h : s.mp = .empty) : s.writtenOut p = s := by
  cases s; cases h; rfl

/-! #### How long a command is busy -/

/-- With no micro-program left, ticks start none. -/
theorem coast_mp_empty {p : Params} {lv : Nat → Bool} (n : Nat) {s : State} (h : s.mp = .empty) :
    (coast p lv n s).mp = .empty := by
  induction n generalizing s with
  | zero => exact h
  | succ n ih => rw [coast, resume_idle (by simp [h])]; exact ih h

/-- Ticks keep the control state legal. -/
theorem controlInv_ticks {lv : Nat → Bool} {n : Nat} {s u : State} (h : ControlInv s) (hu : ticks lv n s = .next u) :
    ControlInv u := by
  induction n generalizing s with
  | zero => cases hu; exact h
  | succ n ih =>
    cases ht : tickOnce lv s with
    | next t =>
      rw [ticks_succ_next ht] at hu
      exact ih (step_keeps_controlInv (s := { s with inputs := .tick (lv (s.gt + 1)) :: s.inputs }) h ht) hu
    | fault r => simp [ticks, ht, andThen] at hu
    | refused r => simp [ticks, ht, andThen] at hu

section
variable {i : Instr} {s t : State} {lv : Nat → Bool} {n : Nat}

/-- A command completes where the coast of its written-out micro-program leaves none. -/
theorem completes_of_coast_writtenOut {u : State} (hi : exec i s = .next t) (ht : UnderWay t)
    (hu : coast Config.params lv n (t.writtenOut Config.params) = u) (hmp : u.mp = .empty) : Completes i s lv n u := by
  obtain ⟨v, hv, -, hout⟩ := ht.ticks lv n
  rw [hu] at hout
  rw [writtenOut_of_empty (writtenOut_mp_eq_empty.mp (hout ▸ hmp))] at hout
  exact ⟨t, hi, hout ▸ hv⟩

/-- A command is busy as long as its written-out micro-program is not at its end one tick before (R40). -/
theorem takesTicks_of_coast_writtenOut (hi : exec i s = .next t) (ht : UnderWay t) (hinv : ControlInv t)
    (hlast : (coast Config.params lv n (t.writtenOut Config.params)).mp ≠ .empty)
    (hend : (coast Config.params lv (n + 1) (t.writtenOut Config.params)).busy = false) : TakesTicks i s lv (n + 1) := by
  refine ⟨t, hi, fun j hj => ?_, ?_⟩
  · obtain ⟨u, hu, -, hout⟩ := ht.ticks lv j
    refine ⟨u, hu, busy_of_mp_ne_empty (controlInv_ticks hinv hu) fun hempty => hlast ?_⟩
    rw [show n = j + (n - j) by omega, coast_add, ← hout]
    exact coast_mp_empty _ (writtenOut_mp_eq_empty.mpr hempty)
  · obtain ⟨u, hu, -, hout⟩ := ht.ticks lv (n + 1)
    exact ⟨u, hu, by rwa [← hout] at hend⟩

end

end Sys2Proof.Machine

namespace Sys2Proof.Machine

/-! ### Proofs: READ_TEMPERATURE (R150 to R162) -/

/-! #### The conversion wait (R153) -/

/-- `n + 1` chunks of the conversion wait: they are counted in LOOPCNT, nothing else happens (R153). -/
theorem coast_convertWaits (lv : Nat → Bool) (k : Prog) (n : Nat) (s : State) :
    coast Config.params lv (7500 * (n + 1)) (run Config.params (convertWaits Config.params (n + 1) k) s) =
      run Config.params k { s with loopcnt := s.loopcnt + (n + 1), tb := 7500, wtgt := 7500
                                   gt := s.gt + 7500 * (n + 1), owIn := lv (s.gt + 7500 * (n + 1)) } := by
  induction n generalizing s with
  | zero =>
    rw [convertWaits, coast_wait (w := 7500) lv _ rfl (by decide), run_op]
    rfl
  | succ n ih =>
    rw [show 7500 * (n + 1 + 1) = 7500 + 7500 * (n + 1) by omega, convertWaits, coast_wait_add (w := 7500) lv _ _ rfl (by decide),
      run_op, ih]
    simp [waited, applyOp, Nat.add_assoc, Nat.add_comm 1]

/-! #### The nine bytes of the scratchpad (R156) -/

/-- One byte read and stored (R156). -/
def scratchRead (lv : Nat → Bool) (s : State) : State := storeSp (readByteEnd lv s)

/-- `n` bytes take 520 ticks each, whatever runs after them (R156). -/
theorem coast_scratchpadReads (lv : Nat → Bool) (k : Prog) (n : Nat) (s : State) :
    coast Config.params lv (520 * n) (run Config.params (scratchpadReads Config.params n k) s) =
      run Config.params k ((scratchRead lv)^[n] s) := by
  induction n generalizing s with
  | zero => rfl
  | succ n ih => rw [Nat.mul_succ, Nat.add_comm, coast_add, scratchpadReads, coast_readByte, run_op]; exact ih _

/-- The scratchpad, `old` before, when the first `n` bytes read from time `t` on are stored (R156). -/
def bytesStored (lv : Nat → Bool) (t n : Nat) (old : Vector Byte 9) : Vector Byte 9 :=
  Vector.ofFn fun k : Fin 9 => if k < n then byteAt lv (t + 520 * k) else old[k]

theorem bytesStored_zero (lv : Nat → Bool) (t : Nat) (old : Vector Byte 9) : bytesStored lv t 0 old = old := by
  ext i hi
  simp [bytesStored]

/-- The next byte goes behind those stored. -/
theorem bytesStored_succ (lv : Nat → Bool) (t n : Nat) (old : Vector Byte 9) :
    (bytesStored lv t n old).setIfInBounds n (byteAt lv (t + 520 * n)) = bytesStored lv t (n + 1) old := by
  ext1 i hi
  rw [Vector.getElem_setIfInBounds hi]
  simp only [bytesStored, Vector.getElem_ofFn]
  rcases Nat.lt_trichotomy n i with h | rfl | h
  · rw [if_neg (by omega), if_neg (by omega), if_neg (by omega)]
  · rw [if_pos rfl, if_pos (by omega)]
  · rw [if_neg (by omega), if_pos h, if_pos (by omega)]

/-- The nine bytes read from time `t` on (R156). -/
def bytesRead (lv : Nat → Bool) (t : Nat) : Vector Byte 9 := Vector.ofFn fun k : Fin 9 => byteAt lv (t + 520 * k)

/-- Nine bytes leave nothing of the scratchpad before. -/
theorem bytesStored_nine (lv : Nat → Bool) (t : Nat) (old : Vector Byte 9) : bytesStored lv t 9 old = bytesRead lv t := by
  simp [bytesStored, bytesRead]

/-- What `n + 1` bytes read into the scratchpad from its start on leave, every field. -/
theorem iterate_scratchRead (lv : Nat → Bool) (n : Nat) (s : State) (h : s.bytecnt = 0) :
    (scratchRead lv)^[n + 1] s =
      { s with drive := false, rb := lv (s.gt + 520 * n + 465), shift := byteAt lv (s.gt + 520 * n), bitcnt := 8
               bytecnt := n + 1, sp := bytesStored lv s.gt (n + 1) s.sp, tb := 55, wtgt := 55
               gt := s.gt + 520 * (n + 1), owIn := lv (s.gt + 520 * (n + 1))
               trace := s.trace ++ (List.range (n + 1)).flatMap fun i => readByteTrace lv (s.gt + 520 * i) } := by
  induction n with
  | zero =>
    have hsp := bytesStored_succ lv s.gt 0 s.sp
    rw [bytesStored_zero] at hsp
    simp [scratchRead, readByteEnd, storeSp, h, ← hsp]
  | succ n ih =>
    rw [Function.iterate_succ_apply', ih, List.range_succ (n := n + 1), ← bytesStored_succ lv s.gt (n + 1)]
    simp [scratchRead, readByteEnd, storeSp, Nat.add_assoc, Nat.mul_add]

/-! #### The steps the phases are made of -/

/-- The state a phase's reset pulse hands on: its result in the phase's presence flag (R151, R154, R158). -/
def phaseResetEnd (lv : Nat → Bool) (q : Seq) (f : PresFlag) (s : State) : State :=
  setPres f (resetPresenceEnd lv { s with seq := q })

/-- A phase's reset pulse takes 960 ticks, whatever runs after it. -/
theorem coast_phaseReset (lv : Nat → Bool) (q : Seq) (f : PresFlag) (k : Prog) (s : State) :
    coast Config.params lv 960
        (run Config.params (.op (.setSeq q) (resetPresence Config.params (.op (.setPres f) k))) s) =
      run Config.params k (phaseResetEnd lv q f s) := by
  rw [run_op, coast_resetPresence, run_op]
  rfl

/-- The flag holds the pulse's result (R111). -/
theorem presFlag_phaseResetEnd (lv : Nat → Bool) (q : Seq) (f : PresFlag) (s : State) :
    presFlag f (phaseResetEnd lv q f s) = presenceAt lv s.gt := by
  cases f <;> rfl

/-- The state the sending of a phase's wire byte hands on (R152, R155). -/
def phaseByteEnd (lv : Nat → Bool) (q : Seq) (b : Byte) (s : State) : State := writeByteEnd lv b { s with seq := q }

/-- The sending of a phase's wire byte takes 600 ticks, whatever runs after it. -/
theorem coast_phaseByte (lv : Nat → Bool) (q : Seq) (b : Byte) (k : Prog) (s : State) :
    coast Config.params lv 600 (run Config.params (.op (.setSeq q) (writeByte Config.params b k)) s) =
      run Config.params k (phaseByteEnd lv q b s) := by
  rw [run_op, coast_writeByte]
  rfl

/-! #### Phase 1 (R151, R152) -/

/-- The state phase 1's block, started in `s`, hands on: the two bytes sent that start the conversion. -/
def conversionStartedEnd (lv : Nat → Bool) (s : State) : State :=
  phaseByteEnd lv .convert Config.cmdConvertT (phaseByteEnd lv .skipRom1 Config.cmdSkipRom s)

/-- Phase 1's block takes 1200 ticks, whatever runs after it (R160). -/
theorem coast_phase1Block (lv : Nat → Bool) (k : Prog) (s : State) :
    coast Config.params lv 1200 (run Config.params ((phase1Block k).writtenOut Config.params) s) =
      run Config.params (k.writtenOut Config.params) (conversionStartedEnd lv s) := by
  have hprog : (phase1Block k).writtenOut Config.params =
      .op (.setSeq .skipRom1) (writeByte Config.params Config.cmdSkipRom
        (.op (.setSeq .convert) (writeByte Config.params Config.cmdConvertT (k.writtenOut Config.params)))) := rfl
  rw [hprog, show 1200 = 600 + 600 from rfl, coast_add, coast_phaseByte, coast_phaseByte, conversionStartedEnd]

/-- The state phase 1 hands on to the conversion wait. -/
def phase1End (lv : Nat → Bool) (s : State) : State :=
  let r := phaseResetEnd lv .reset1 .pres1 (clearPhasePres s)
  if presenceAt lv s.gt then conversionStartedEnd lv r else r

/-- Phase 1 takes 960 ticks, and 1200 more where a device answers (R160). -/
theorem coast_phase1 (lv : Nat → Bool) (s : State) :
    coast Config.params lv (960 + if presenceAt lv s.gt then 1200 else 0)
        (run Config.params ((readTemperatureProg Config.params).writtenOut Config.params) s) =
      run Config.params ((conversionWait Config.params).writtenOut Config.params) (phase1End lv s) := by
  have hprog : (readTemperatureProg Config.params).writtenOut Config.params =
      .op .clearPhasePres (.op (.setSeq .reset1) (resetPresence Config.params (.op (.setPres .pres1)
        (.ifPres .pres1 ((phase1Block (conversionWait Config.params)).writtenOut Config.params)
          ((conversionWait Config.params).writtenOut Config.params))))) := rfl
  rw [hprog, run_op, coast_add, coast_phaseReset, run_ifPres, presFlag_phaseResetEnd, applyOp, clearPhasePres_gt, phase1End]
  cases presenceAt lv s.gt
  case false => rfl
  case true => exact coast_phase1Block lv _ _

/-! #### The conversion wait, whatever phase 1 found (R153) -/

/-- The state the conversion wait hands on to phase 2. -/
def conversionEnd (lv : Nat → Bool) (s : State) : State :=
  { s with seq := .convWait, loopcnt := 100, tb := 7500, wtgt := 7500, gt := s.gt + 750000, owIn := lv (s.gt + 750000) }

/-- The conversion wait takes 750000 ticks (R160). -/
theorem coast_conversion (lv : Nat → Bool) (s : State) :
    coast Config.params lv 750000 (run Config.params ((conversionWait Config.params).writtenOut Config.params) s) =
      run Config.params ((phase2 Config.params).writtenOut Config.params) (conversionEnd lv s) := by
  have hprog : (conversionWait Config.params).writtenOut Config.params =
      .op (.setSeq .convWait) (.op .clearLoop
        (convertWaits Config.params 100 ((phase2 Config.params).writtenOut Config.params))) :=
    congrArg (fun k => Prog.op (.setSeq .convWait) (.op .clearLoop k)) (writtenOut_convertWaits ..)
  rw [hprog, run_op, run_op, show 750000 = 7500 * (99 + 1) from rfl, coast_convertWaits]
  rfl

/-! #### Phase 2 (R154 to R157) -/

/-- The state phase 2's block, started in `s`, hands on: nine bytes read and decoded. -/
def readingEnd (lv : Nat → Bool) (s : State) : State :=
  let b := { phaseByteEnd lv .readSp Config.cmdReadScratchpad (phaseByteEnd lv .skipRom2 Config.cmdSkipRom s) with
    seq := .readBytes, bytecnt := 0 }
  decodeSp Config.params { (scratchRead lv)^[9] b with seq := .decode }

/-- Phase 2's block takes 5880 ticks, whatever runs after it (R160). -/
theorem coast_phase2Block (lv : Nat → Bool) (k : Prog) (s : State) :
    coast Config.params lv (1200 + 4680) (run Config.params ((phase2Block Config.params k).writtenOut Config.params) s) =
      run Config.params (k.writtenOut Config.params) (readingEnd lv s) := by
  have hreads : (scratchpadReads Config.params Config.spBytes (.op (.setSeq .decode) (.op .decodeSp k))).writtenOut Config.params =
      scratchpadReads Config.params 9 (.op (.setSeq .decode) (.op .decodeSp (k.writtenOut Config.params))) :=
    writtenOut_scratchpadReads ..
  have hprog : (phase2Block Config.params k).writtenOut Config.params =
      .op (.setSeq .skipRom2) (writeByte Config.params Config.cmdSkipRom
        (.op (.setSeq .readSp) (writeByte Config.params Config.cmdReadScratchpad
          (.op (.setSeq .readBytes) (.op .clearBytes
            ((scratchpadReads Config.params Config.spBytes
              (.op (.setSeq .decode) (.op .decodeSp k))).writtenOut Config.params)))))) := rfl
  rw [hprog, hreads, show 1200 + 4680 = 600 + (600 + 520 * 9) from rfl, coast_add, coast_phaseByte, coast_add, coast_phaseByte,
    run_op, run_op, coast_scratchpadReads, run_op, run_op]
  rfl

/-- The state phase 2 hands on to phase 3. -/
def phase2End (lv : Nat → Bool) (s : State) : State :=
  let r := phaseResetEnd lv .reset2 .pres2 s
  if presenceAt lv s.gt then readingEnd lv r else r

/-- Phase 2 takes 960 ticks, and 5880 more where a device answers (R160). -/
theorem coast_phase2 (lv : Nat → Bool) (s : State) :
    coast Config.params lv (960 + if presenceAt lv s.gt then 1200 + 4680 else 0)
        (run Config.params ((phase2 Config.params).writtenOut Config.params) s) =
      run Config.params ((phase3 Config.params).writtenOut Config.params) (phase2End lv s) := by
  have hprog : (phase2 Config.params).writtenOut Config.params =
      .op (.setSeq .reset2) (resetPresence Config.params (.op (.setPres .pres2)
        (.ifPres .pres2 ((phase2Block Config.params (phase3 Config.params)).writtenOut Config.params)
          ((phase3 Config.params).writtenOut Config.params)))) := rfl
  rw [hprog, coast_add, coast_phaseReset, run_ifPres, presFlag_phaseResetEnd, phase2End]
  cases presenceAt lv s.gt
  case false => rfl
  case true => exact coast_phase2Block lv _ _

/-! #### Phase 3 (R158) -/

/-- Phase 3 takes 960 ticks and completes the command. -/
theorem coast_phase3 (lv : Nat → Bool) (s : State) :
    coast Config.params lv 960 (run Config.params ((phase3 Config.params).writtenOut Config.params) s) =
      complete (phaseResetEnd lv .reset3 .pres3 s) :=
  coast_phaseReset lv .reset3 .pres3 .done s

/-- One tick before, phase 3 still waits for its second sample. -/
theorem coast_phase3_waits (lv : Nat → Bool) (s : State) :
    (coast Config.params lv 959 (run Config.params ((phase3 Config.params).writtenOut Config.params) s)).mp ≠ .empty := by
  have hprog : (phase3 Config.params).writtenOut Config.params =
      .op (.setSeq .reset3) (resetPresence Config.params (.op (.setPres .pres3) .done)) := rfl
  rw [hprog, run_op, resetPresence, run_op, show 959 = 480 + (70 + 409) from rfl,
    coast_wait_add (w := 480) lv _ _ rfl (by decide), run_op, coast_wait_add (w := 70) lv _ _ rfl (by decide), run_op,
    coast_wait_holds (w := 410) lv _ rfl (by decide) (by decide)]
  nofun

/-! #### What the phases leave (R150 to R157) -/

/-- What phase 1 and the conversion wait leave, every field. -/
theorem conversionEnd_phase1End (lv : Nat → Bool) (s : State) :
    conversionEnd lv (phase1End lv s) =
      { s with
        drive := false, pres1 := presenceAt lv s.gt, pres2 := false, pres3 := false, seq := .convWait, tb := 7500, wtgt := 7500
        shift := if presenceAt lv s.gt then 0 else s.shift, bitcnt := if presenceAt lv s.gt then 8 else s.bitcnt
        loopcnt := 100, s1 := lv (s.gt + 550), s2 := lv (s.gt + 960)
        gt := reset2Start lv s.gt, owIn := lv (reset2Start lv s.gt)
        trace := s.trace ++ (resetTrace lv s.gt ++
          if presenceAt lv s.gt then writeByteTrace 0xCC (s.gt + 960) ++ writeByteTrace 0x44 (s.gt + 1560) else []) } := by
  unfold phase1End reset2Start
  simp only [phaseResetEnd, setPres, presence_resetPresenceEnd, clearPhasePres_gt]
  cases presenceAt lv s.gt <;>
    simp [conversionEnd, resetPresenceEnd, clearPhasePres, conversionStartedEnd, phaseByteEnd, writeByteEnd,
      Config.cmdSkipRom, Config.cmdConvertT, Nat.add_assoc]

/-- What phase 2 leaves, every field. -/
theorem phase2End_eq (lv : Nat → Bool) (s : State) :
    phase2End lv s =
      { withReading (presenceAt lv s.gt) (bytesRead lv (s.gt + 960 + 1200)) (lv (s.gt + 960 + 1200 + 520 * 8 + 465)) s with
        drive := false, pres2 := presenceAt lv s.gt, seq := if presenceAt lv s.gt then .decode else .reset2
        tb := if presenceAt lv s.gt then 55 else 410, wtgt := if presenceAt lv s.gt then 55 else 410
        s1 := lv (s.gt + 550), s2 := lv (s.gt + 960)
        gt := s.gt + 960 + (if presenceAt lv s.gt then 1200 + 4680 else 0)
        owIn := lv (s.gt + 960 + (if presenceAt lv s.gt then 1200 + 4680 else 0))
        trace := s.trace ++ (resetTrace lv s.gt ++
          if presenceAt lv s.gt then
            writeByteTrace 0xCC (s.gt + 960) ++ writeByteTrace 0xBE (s.gt + 1560) ++
              (List.range 9).flatMap (fun k => readByteTrace lv (s.gt + 960 + 1200 + 520 * k))
          else []) } := by
  simp only [phase2End, phaseResetEnd, setPres, presence_resetPresenceEnd]
  cases presenceAt lv s.gt
  case false => simp [resetPresenceEnd, withReading]
  case true =>
    have hlast : (bytesRead lv (s.gt + 2160))[8] = byteAt lv (s.gt + 6320) := by simp [bytesRead]
    rw [if_pos rfl, readingEnd, iterate_scratchRead lv 8 _ rfl, bytesStored_nine]
    simp [withReading, resetPresenceEnd, phaseByteEnd, writeByteEnd, Config.cmdSkipRom, Config.cmdReadScratchpad, Nat.add_assoc,
      decodeSp, hlast]

/-! #### The whole transaction (R150, R160) -/

/-- The state in which a READ_TEMPERATURE started in `s` comes to phase 3. -/
def phase3Start (lv : Nat → Bool) (s : State) : State := phase2End lv (conversionEnd lv (phase1End lv s))

theorem conversionEnd_gt (lv : Nat → Bool) (s : State) : (conversionEnd lv (phase1End lv s)).gt = reset2Start lv s.gt := by
  rw [conversionEnd_phase1End]

/-- All before phase 3 takes what R160 gives it. -/
theorem coast_toPhase3 (lv : Nat → Bool) (s : State) :
    coast Config.params lv (reset3Start lv s.gt - s.gt)
        (run Config.params ((readTemperatureProg Config.params).writtenOut Config.params) s) =
      run Config.params ((phase3 Config.params).writtenOut Config.params) (phase3Start lv s) := by
  have hticks : reset3Start lv s.gt - s.gt = (960 + if presenceAt lv s.gt then 1200 else 0) +
      (750000 + (960 + if presenceAt lv (conversionEnd lv (phase1End lv s)).gt then 1200 + 4680 else 0)) := by
    rw [conversionEnd_gt, reset3Start, secondPresence]
    generalize presenceAt lv (reset2Start lv s.gt) = second
    unfold reset2Start
    omega
  rw [hticks, coast_add, coast_phase1, coast_add, coast_conversion, coast_phase2, phase3Start]

theorem readTemperatureTicks_eq (lv : Nat → Bool) (t : Nat) : readTemperatureTicks lv t = reset3Start lv t - t + 959 + 1 := by
  unfold readTemperatureTicks reset3Start reset2Start
  omega

/-- R160's four durations. -/
theorem readTemperatureTicks_cases (lv : Nat → Bool) (t : Nat) :
    readTemperatureTicks lv t =
      if presenceAt lv t then (if secondPresence lv t then 759960 else 754080)
      else (if secondPresence lv t then 758760 else 752880) := by
  unfold readTemperatureTicks reset3Start reset2Start
  split_ifs <;> omega

/-- What the completion leaves, every field (R150 to R162). -/
theorem complete_phase3Start (lv : Nat → Bool) (s : State) :
    complete (phaseResetEnd lv .reset3 .pres3 (phase3Start lv { s with pend := false })) = readTemperatureEnd lv s := by
  have hsp : bytesRead lv (reset2Start lv s.gt + 960 + 1200) = scratchpadAt lv s.gt := rfl
  rw [phase3Start, phase2End_eq, conversionEnd_phase1End]
  simp only [phaseResetEnd, setPres, presence_resetPresenceEnd, readTemperatureEnd, readTemperatureTrace, hsp]
  simp only [reset3Start, secondPresence, scratchByteStart]
  -- The four rows of R160.
  by_cases h1 : presenceAt lv s.gt = true <;> by_cases h2 : presenceAt lv (reset2Start lv s.gt) = true <;>
    simp [complete, resetPresenceEnd, idleAt, withReading, h1, h2]

/-- READ_TEMPERATURE's start leaves it under way (R44(b), R150). -/
theorem readTemperature_starts {s : State} (hr : s.rst = false) :
    ∃ t, exec .readTemperature s = .next t ∧ UnderWay t ∧
      t.writtenOut Config.params =
        run Config.params ((readTemperatureProg Config.params).writtenOut Config.params) { s with pend := false } := by
  obtain ⟨t, ht, hu, hout⟩ := sendFetchedByte_run (s := { s with pend := false }) hr rfl
    (lineSafe_readTemperatureProg Config.params s.drive)
  exact ⟨t, ht, hu, hout⟩

/-- READ_TEMPERATURE runs to its end state, whatever the line does (R150). -/
theorem completes_readTemperature {s : State} (lv : Nat → Bool) (hr : s.rst = false) :
    Completes .readTemperature s lv (readTemperatureTicks lv s.gt) (readTemperatureEnd lv s) := by
  obtain ⟨t, hexec, hunder, hout⟩ := readTemperature_starts hr
  refine completes_of_coast_writtenOut hexec hunder ?_ rfl
  rw [hout, readTemperatureTicks_eq, Nat.add_assoc, coast_add, coast_toPhase3 lv { s with pend := false }, coast_phase3,
    complete_phase3Start]

/-- READ_TEMPERATURE's start leaves the control state legal, where the accept step has set BUSY: it sets SEQ itself (R46, R150). -/
theorem controlInv_readTemperature {s t : State} (hb : s.busy = true) (ht : exec .readTemperature s = .next t) :
    ControlInv t := by
  have hseq : exec .readTemperature s =
      .next (run Config.params (readTemperatureProg Config.params) { s with pend := false, seq := .reset1 }) := rfl
  cases hseq.symm.trans ht
  exact controlInv_run _ ⟨hb, rfl, nofun, lineSafe_readTemperatureProg Config.params s.drive⟩

/-- READ_TEMPERATURE is busy until it completes (R250). -/
theorem takesTicks_readTemperature {s : State} (lv : Nat → Bool) (hr : s.rst = false) (hb : s.busy = true) :
    TakesTicks .readTemperature s lv (readTemperatureTicks lv s.gt) := by
  obtain ⟨t, hexec, hunder, hout⟩ := readTemperature_starts hr
  rw [readTemperatureTicks_eq]
  refine takesTicks_of_coast_writtenOut hexec hunder (controlInv_readTemperature hb hexec) ?last ?done
  case last => rw [hout, coast_add, coast_toPhase3 lv { s with pend := false }]; exact coast_phase3_waits lv _
  case done => rw [hout, Nat.add_assoc, coast_add, coast_toPhase3 lv { s with pend := false }, coast_phase3]; rfl

/-- Settles O35: the count is R160's by the two presence results, BUSY holds up to it, and the flags and the line events are fields
of the end state. -/
theorem readTemperatureDurations : Obligations.ReadTemperatureDurations := by
  unfold Obligations.ReadTemperatureDurations
  intro s lv n hr hn
  rw [hn, ← readTemperatureTicks_cases]
  exact ⟨takesTicks_readTemperature lv hr, _, completes_readTemperature lv hr, rfl, rfl, rfl⟩

/-- Where the second reset pulse finds no device the scratchpad and the decoded fields are the old ones (R162). -/
theorem readTemperatureEnd_stale {lv : Nat → Bool} {s : State} (h : secondPresence lv s.gt = false) :
    (readTemperatureEnd lv s).sp = s.sp ∧ (readTemperatureEnd lv s).tempInt = s.tempInt ∧
    (readTemperatureEnd lv s).tempFrac = s.tempFrac ∧ (readTemperatureEnd lv s).tempRaw = s.tempRaw ∧
    (readTemperatureEnd lv s).minus = s.minus := by
  rw [readTemperatureEnd, h]
  cases presenceAt lv s.gt <;> exact ⟨rfl, rfl, rfl, rfl, rfl⟩

/-- Settles O37: PRES2 at completion is the second pulse's result, and where that is 0 no reading is taken. -/
theorem staleDataWhenSecondPresenceFails : Obligations.StaleDataWhenSecondPresenceFails := by
  unfold Obligations.StaleDataWhenSecondPresenceFails
  exact fun s lv hr => ⟨_, completes_readTemperature lv hr, rfl, readTemperatureEnd_stale⟩

end Sys2Proof.Machine

namespace Sys2Proof.Machine

/-! ### Proofs: the decoder (R180 to R184) -/

/-! #### The decoder's functions on numbers (R180) -/

/-- MINUS is set from 128 on: bit 7 is the sign of the MSB (R180). -/
theorem minusOf_eq_decide (msb : Byte) : minusOf msb = decide (128 ≤ msb.toNat) := BitVec.msb_eq_decide msb

theorem magnitudeMsb_toNat (msb : Byte) :
    (magnitudeMsb msb).toNat = if 128 ≤ msb.toNat then 255 - msb.toNat else msb.toNat := by
  have hsign : magnitudeMsb msb = if minusOf msb then ~~~msb else msb := rfl
  simp only [hsign, minusOf_eq_decide, decide_eq_true_eq, apply_ite BitVec.toNat, BitVec.toNat_not]

/-- The integer field is bits 2:0 of `m` above the high nibble of the LSB (R183). -/
theorem integerField_toNat (lsb msb : Byte) :
    (integerField lsb msb).toNat = (magnitudeMsb msb).toNat % 8 * 16 + lsb.toNat / 16 := by
  have hlow : (magnitudeMsb msb &&& 0x07).toNat = (magnitudeMsb msb).toNat % 8 :=
    Nat.and_two_pow_sub_one_eq_mod _ 3
  have hhigh : ((magnitudeMsb msb &&& 0x07) <<< 4).toNat = ((magnitudeMsb msb).toNat % 8) <<< 4 := by
    rw [BitVec.toNat_shiftLeft, hlow, Nat.shiftLeft_eq, Nat.mod_eq_of_lt (by omega)]
  have hnibble : (lsb >>> 4).toNat = lsb.toNat / 16 := Nat.shiftRight_eq_div_pow _ 4
  have hlt : lsb.toNat / 16 < 2 ^ 4 := by omega
  rw [integerField, BitVec.toNat_or, hhigh, hnibble, ← Nat.shiftLeft_add_eq_or_of_lt hlt, Nat.shiftLeft_eq]

/-- The integer field has seven bits, so the int8 negation cannot overflow (R184). -/
theorem integerField_lt (lsb msb : Byte) : (integerField lsb msb).toNat < 128 := by
  rw [integerField_toNat]
  omega

/-- TEMP_INT is the integer field, with the sign that MINUS says (R180). -/
theorem tempIntOf_eq (lsb msb : Byte) :
    tempIntOf lsb msb = if minusOf msb then -integerField lsb msb else integerField lsb msb := rfl

/-- TEMP_INT as the number its eight bits hold: the negation is modulo 2^8 (R180). -/
theorem tempIntOf_eq_ofNat (lsb msb : Byte) :
    tempIntOf lsb msb = BitVec.ofNat 8
      (if 128 ≤ msb.toNat then 256 - (integerField lsb msb).toNat else (integerField lsb msb).toNat) := by
  simp only [tempIntOf_eq, minusOf_eq_decide, decide_eq_true_eq]
  split_ifs
  case pos => exact BitVec.eq_of_toNat_eq (BitVec.toNat_neg _)
  case neg => exact BitVec.eq_of_toNat_eq (Nat.mod_eq_of_lt (BitVec.isLt _)).symm

/-- TEMP_INT as an int8 (R184). -/
theorem tempIntOf_toInt (lsb msb : Byte) :
    (tempIntOf lsb msb).toInt = if minusOf msb then -((integerField lsb msb).toNat : Int) else (integerField lsb msb).toNat := by
  have hlt := integerField_lt lsb msb
  have hpos : (integerField lsb msb).toInt = (integerField lsb msb).toNat := BitVec.toInt_eq_toNat_of_lt (by omega)
  have hneg : (-integerField lsb msb).toInt = -(integerField lsb msb).toInt :=
    BitVec.toInt_neg_eq_of_msb (BitVec.msb_eq_false_iff_two_mul_lt.mpr (by omega))
  rw [tempIntOf_eq, apply_ite BitVec.toInt, hneg, hpos]

/-- TEMP_FRAC on the LSB's low nibble, at R9's FRAC_DIVISOR (R185). -/
theorem tempFracOf_eq_ofNat (lsb : Byte) :
    tempFracOf Config.params lsb = BitVec.ofNat 10 (lsb.toNat % 16 * 625 / 1000) := by
  have hnibble : (lsb &&& 0x0F).toNat = lsb.toNat % 16 := Nat.and_two_pow_sub_one_eq_mod _ 4
  rw [tempFracOf, hnibble]
  rfl

/-- TEMP_RAW has the MSB in its upper byte (R180). -/
theorem tempRawOf_eq_ofNat (lsb msb : Byte) : tempRawOf lsb msb = BitVec.ofNat 16 (256 * msb.toNat + lsb.toNat) := by
  have hraw : (tempRawOf lsb msb).toNat = 256 * msb.toNat + lsb.toNat := append_toNat msb lsb
  rw [← hraw, BitVec.ofNat_toNat, BitVec.setWidth_eq]

/-! #### The command (R181) -/

/-- DECODE runs the decode step and completes, on its start tick (R181). -/
theorem exec_decode (s : State) : exec .decode s = .next (complete (decodeSp Config.params { s with pend := false })) := rfl

/-- Settles O39: DECODE is the decode step and the completion (`exec_decode`), and each field it writes is R180's number. -/
theorem decodeComputesTheReading : Obligations.DecodeComputesTheReading := by
  unfold Obligations.DecodeComputesTheReading
  rintro s lsb msb m ip rfl rfl rfl rfl
  rw [exec_decode, ← magnitudeMsb_toNat, ← integerField_toNat, ← tempRawOf_eq_ofNat, ← tempIntOf_eq_ofNat,
    ← tempFracOf_eq_ofNat, ← minusOf_eq_decide]
  rfl

/-- Settles O40: TEMP_INT is the seven-bit integer field or its negation (`tempIntOf_toInt`), so it stays in range. -/
theorem integerPartNeverOverflows : Obligations.IntegerPartNeverOverflows := by
  unfold Obligations.IntegerPartNeverOverflows
  intro s
  refine ⟨_, exec_decode s, ?_⟩
  simp only [complete_tempInt, complete_minus, decodeSp_tempInt, decodeSp_minus]
  have hlt := integerField_lt s.sp[0] s.sp[1]
  have hint := tempIntOf_toInt s.sp[0] s.sp[1]
  cases hm : minusOf s.sp[1]
  case false =>
    simp only [hm, Bool.false_eq_true, if_false] at hint
    exact ⟨by omega, by omega, nofun, nofun, fun _ => hint⟩
  case true =>
    simp only [hm, if_true] at hint
    refine ⟨by omega, by omega, fun _ hzero => ⟨?_, rfl⟩, fun _ => hint, nofun⟩
    rw [tempIntOf_eq, hm, if_pos rfl, hzero]
    rfl

end Sys2Proof.Machine

namespace Sys2Proof.Machine

/-! ### Proofs: the accept step and the error bits (R200, R207) -/

/-! #### The three cases of a write of CMD (R200) -/

/-- A busy controller refuses every word, legal or not (R200, R207). -/
theorem acceptStep_busy (w : Word) {s : State} (hb : s.busy = true) : acceptStep w s = raise .ovr s := if_pos hb

theorem acceptStep_legal {w : Word} {i : Instr} {s : State} (hb : s.busy = false) (hd : decode w = .ok i) :
    acceptStep w s = accept w i s := by
  simp [acceptStep, hb, hd]

/-- Of the words that CMD takes, READ_TEMPERATURE alone starts at RESET1 (R86). -/
theorem initialSeq_of_decode {w : Word} {i : Instr} (h : decode w = .ok i) :
    initialSeq i = if i = .readTemperature then .reset1 else .prim := by
  obtain ⟨hskip, hconvert, hread⟩ := decode_ne_wire h
  cases i with
  | skipRomByte => exact absurd rfl hskip
  | convertTByte => exact absurd rfl hconvert
  | readScratchpadByte => exact absurd rfl hread
  | _ => rfl

/-- Settles O8: a write of CMD is the accept step (`step_cmdWrite`), which has one equation for each case. -/
theorem acceptStepThreeCases : Obligations.AcceptStepThreeCases := by
  unfold Obligations.AcceptStepThreeCases
  refine ⟨⟨rfl, rfl⟩, fun s rest w hi hr => ?_⟩
  rw [step_cmdWrite hi hr]
  refine ⟨fun hb => ?_, fun hb hw => ?_, fun i hb hd => ?_⟩
  · rw [acceptStep_busy w (s := { s with inputs := rest }) hb, raise]
  · rw [acceptStep_illegal (s := { s with inputs := rest }) hb hw, raise]
  · rw [acceptStep_legal (s := { s with inputs := rest }) hb hd, accept, initialSeq_of_decode hd]

/-! #### What raises no error -/

/-- No error bit is set in `t` that was not set in `s`. -/
def NoErrorRaised (s t : State) : Prop :=
  (t.errIll = true → s.errIll = true) ∧ (t.errOvr = true → s.errOvr = true)

theorem NoErrorRaised.refl (s : State) : NoErrorRaised s s := ⟨id, id⟩

theorem NoErrorRaised.trans {s t u : State} (h : NoErrorRaised s t) (h' : NoErrorRaised t u) : NoErrorRaised s u :=
  ⟨h.1 ∘ h'.1, h.2 ∘ h'.2⟩

theorem noErrorRaised_underReset (s : State) : NoErrorRaised s (underReset s) := ⟨nofun, nofun⟩

theorem noErrorRaised_settle (s : State) : NoErrorRaised s (settle s) := by
  cases hr : s.rst with
  | false => rw [settle_of_not_rst hr]; exact .refl s
  | true => rw [settle_of_rst hr]; exact noErrorRaised_underReset s

theorem noErrorRaised_driveRst (l : Bool) (s : State) : NoErrorRaised s (driveRst l s) := by
  cases l with
  | false => exact .refl s
  | true => exact noErrorRaised_underReset s

/-- A write of STATUS only clears error bits (R27). -/
theorem noErrorRaised_writeStatus (v : Word) (s : State) : NoErrorRaised s (writeStatus v s) :=
  ⟨Bool.and_elim_left, Bool.and_elim_left⟩

theorem noErrorRaised_applyOp (p : Params) (o : MicroOp) (s : State) : NoErrorRaised s (applyOp p o s) := by
  cases o with
  | clearErrors => exact ⟨nofun, nofun⟩
  | smp r => cases r <;> exact .refl s
  | setPres f => cases f <;> exact .refl s
  | _ => exact .refl s

/-- Micro-programs raise no error: each micro-op raises none, and where they stop the error bits stand. -/
theorem noErrorRaised_run (p : Params) (k : Prog) (s : State) : NoErrorRaised s (run p k s) :=
  run_induction p (R := fun _ t => NoErrorRaised s t) (Q := NoErrorRaised s)
    (hdone := fun _ h => h)
    (hop := fun o _ t h => h.trans (noErrorRaised_applyOp p o t))
    (hzero := fun _ _ _ h => h)
    (hwait := fun _ _ _ h => h)
    (hwire := fun _ _ _ h => h)
    (hyes := fun _ _ _ _ h _ => h)
    (hno := fun _ _ _ _ h _ => h)
    k s (.refl s)

theorem noErrorRaised_resume (p : Params) (s : State) : NoErrorRaised s (resume p s) := by
  unfold resume
  split
  · split
    · exact noErrorRaised_run p _ s
    · exact .refl s
  · exact .refl s
  · exact .refl s

theorem noErrorRaised_sendFetchedByte {s s' : State} (h : sendFetchedByte s = .next s') : NoErrorRaised s s' := by
  rcases sendFetchedByte_cases h with ⟨-, rfl⟩ | ⟨b, k, i, -, -, rfl⟩
  · exact .refl _
  · exact noErrorRaised_run _ _ s

/-- A tick raises no error: it counts, and runs micro-programs (R44). -/
theorem noErrorRaised_tickStep {l : Bool} {s s' : State} (h : tickStep l s = .next s') : NoErrorRaised s s' := by
  rcases tickStep_cases h with ⟨-, rfl⟩ | ⟨-, -, i, hd, he⟩ | ⟨-, -, he⟩
  · exact .refl _
  · rw [exec_command hd] at he
    cases he
    exact noErrorRaised_run _ _ { countTick l s with pend := false }
  · exact (noErrorRaised_resume _ (countTick l s)).trans (noErrorRaised_sendFetchedByte he)

/-! #### Which step raises an error (R207) -/

/-- A state that is settled and not under reset was not under reset before. -/
theorem settle_eq_self {s : State} (h : (settle s).rst = false) : settle s = s := by
  cases hr : s.rst with
  | false => exact settle_of_not_rst hr
  | true => simp [settle_of_rst hr, hr] at h

/-- A host write that is not the accept step raises no error (R63, R230). -/
theorem hostWrite_raises {addr size : Nat} {v : Word} {s s' : State} (h : hostWrite Config.params addr size v s = .next s') :
    NoErrorRaised s s' ∨ (addr = Config.base ∧ size = 4 ∧ s.rst = false ∧ s' = acceptStep v s) := by
  obtain ⟨off, hoff, rfl⟩ := hostWrite_cases h
  cases hr : s.rst with
  | true => exact .inl (.refl s)
  | false =>
    rcases writeReg_cases (regAt off) v s with ⟨hcmd, e⟩ | ⟨-, e⟩ | ⟨-, -, e⟩
    · obtain ⟨hsize, hbase, hdiff, -, -⟩ := accessOffset_ok.mp hoff
      have h0 : off = 0 := regAt_cmd.mp hcmd
      have haddr : addr = Config.params.base := by omega
      exact .inr ⟨haddr, hsize, rfl, e⟩
    · exact .inl (e ▸ noErrorRaised_writeStatus v s)
    · exact .inl (e.symm ▸ .refl s)

/-- A step that is not the accept step raises no error. -/
theorem step_raises {s s' : State} (h : step s = .next s') :
    NoErrorRaised s s' ∨
    ∃ w rest, s.inputs = .hostWrite Config.base 4 w :: rest ∧ s' = acceptStep w { s with inputs := rest } := by
  rcases step_cases h with ⟨-, rfl⟩ | ⟨e, rest, hi, he⟩
  · exact .inl (.refl _)
  have hsettle : NoErrorRaised s (settle { s with inputs := rest }) := noErrorRaised_settle { s with inputs := rest }
  cases e with
  | tick l => exact .inl (hsettle.trans (noErrorRaised_tickStep he))
  | hostRead addr size =>
    obtain ⟨off, -, rfl⟩ := hostRead_cases he
    exact .inl hsettle
  | rst l => cases he; exact .inl (hsettle.trans (noErrorRaised_driveRst l _))
  | hostWrite addr size v =>
    rcases hostWrite_raises he with hno | ⟨rfl, rfl, hr, rfl⟩
    · exact .inl (hsettle.trans hno)
    · exact .inr ⟨v, rest, hi, by rw [settle_eq_self hr]⟩

/-- A step raises no error, or it is a write of CMD that raises ERR_OVR while busy or ERR_ILL on an illegal word while idle. -/
theorem step_raises_cases {s s' : State} (h : step s = .next s') :
    NoErrorRaised s s' ∨
    ∃ w rest, s.inputs = .hostWrite Config.base 4 w :: rest ∧
      ((s.busy = true ∧ s' = raise .ovr { s with inputs := rest }) ∨
       (s.busy = false ∧ (∀ i, decode w ≠ .ok i) ∧ s' = raise .ill { s with inputs := rest })) := by
  rcases step_raises h with hno | ⟨w, rest, hi, rfl⟩
  · exact .inl hno
  rcases acceptStep_cases w { s with inputs := rest } with ⟨hb, e⟩ | ⟨hb, hw, e⟩ | ⟨i, -, -, e⟩
  · exact .inr ⟨w, rest, hi, .inl ⟨hb, e⟩⟩
  · exact .inr ⟨w, rest, hi, .inr ⟨hb, hw, e⟩⟩
  · exact .inl (e.symm ▸ .refl s)

/-- A bit that is set afterwards only where it was set before is not raised. -/
theorem not_raised {b c : Bool} (h : c = true → b = true) : ¬ (b = false ∧ c = true) :=
  fun ⟨hb, hc⟩ => Bool.false_ne_true (hb.symm.trans (h hc))

/-- Settles O9: the steps that raise an error are those of `step_raises_cases`, and `raise` sets one bit and keeps the other. -/
theorem errorsRaisedOnlyByCmdWrites : Obligations.ErrorsRaisedOnlyByCmdWrites := by
  unfold Obligations.ErrorsRaisedOnlyByCmdWrites
  intro s s' hs
  rw [← and_assoc]
  refine ⟨?_, fun w rest hi hr hb => ?_⟩
  · rcases step_raises_cases hs with ⟨hill, hovr⟩ | ⟨w, rest, hi, ⟨hb, rfl⟩ | ⟨hb, hw, rfl⟩⟩
    · exact ⟨fun h => not_raised hill h.1, fun h => (h.elim (not_raised hill) (not_raised hovr)).elim⟩
    · exact ⟨fun h => not_raised id h.1, fun _ => ⟨w, rest, hi, fun h => (not_raised id h).elim, fun _ => hb⟩⟩
    · exact ⟨fun h => not_raised id h.2, fun _ => ⟨w, rest, hi, fun _ => ⟨hb, hw⟩, fun h => (not_raised id h).elim⟩⟩
  · rw [step_cmdWrite hi hr, acceptStep_busy w (s := { s with inputs := rest }) hb] at hs
    cases hs
    exact ⟨rfl, rfl⟩

end Sys2Proof.Machine

namespace Sys2Proof.Machine

/-! ### Proofs: reset (R230) -/

/-- R48's values under `rst` = 1, the inputs `rest` to come; `ow_in` and the read data of `s` are the outside's. -/
def heldReset (s : State) (rest : List Event) : State :=
  { State.reset with rst := true, owIn := s.owIn, rdata := s.rdata, inputs := rest }

/-- Where `rst` is 1, the state a step settles on is the held reset state. -/
theorem underReset_eq_heldReset {s : State} (hr : s.rst = true) (rest : List Event) :
    underReset { s with inputs := rest } = heldReset s rest := by
  simp only [underReset, heldReset, hr]

/-- A step under `rst` handles its input at the held reset state. -/
theorem step_heldReset {s : State} {e : Event} {rest : List Event} (hi : s.inputs = e :: rest) (hr : s.rst = true) :
    step s = handle e (heldReset s rest) := by
  rw [step_cons_rst hi hr, underReset_eq_heldReset hr]

/-- `rst` going to 1 leaves nothing of what the state settles on beside the ports and the inputs, so the settling shows nowhere. -/
theorem driveRst_true_settle (s : State) : driveRst true (settle s) = driveRst true s := by
  cases hr : s.rst with
  | false => rw [settle_of_not_rst hr]
  | true => rw [settle_of_rst hr]; rfl

/-- `rst` going to 1 puts the held reset state in place, under reset or not. -/
theorem step_rst_true {s : State} {rest : List Event} (hi : s.inputs = .rst true :: rest) :
    step s = .next (heldReset s rest) := by
  rw [step_of_inputs hi, handle, driveRst_true_settle]
  rfl

/-- A tick under `rst` only keeps its state. -/
theorem tickStep_of_rst {s : State} (hr : s.rst = true) (l : Bool) : tickStep l s = .next s := by
  rw [tickStep, if_pos hr]

/-- Every register reads as its reset value in the held reset state: no register holds a port or the inputs. -/
theorem readReg_heldReset (s : State) (rest : List Event) (a : Nat) :
    readReg (regAt a) (heldReset s rest) = BitVec.ofNat 32 (windowValue State.reset a) := by
  have hframe : windowValue State.reset a = windowValue (heldReset s rest) a := rfl
  rw [hframe, ← readReg_regAt_toNat, BitVec.ofNat_toNat, BitVec.setWidth_eq]

/-- A defined read under `rst` answers the reset value and keeps the held reset state. -/
theorem step_hostRead_of_rst {s : State} {rest : List Event} {a : Nat}
    (hi : s.inputs = .hostRead (Config.base + a) 4 :: rest) (hr : s.rst = true) (ha : a < 0x40) (h4 : a % 4 = 0) :
    step s = .next { heldReset s rest with rdata := BitVec.ofNat 32 (windowValue State.reset a) } := by
  rw [step_heldReset hi hr, handle, hostRead, show Config.base + a = Config.params.base + a from rfl, accessOffset_base_add ha h4,
    ← readReg_heldReset s rest a]

/-- Settles O56: each of the three inputs meets the held reset state, which a tick keeps and a read sees. -/
theorem resetHoldsTheResetState : Obligations.ResetHoldsTheResetState := by
  unfold Obligations.ResetHoldsTheResetState
  refine ⟨fun s rest hi => ?_, fun s rest l hr hi => ?_, fun s rest a hr ha h4 hi => ?_⟩
  · exact step_rst_true hi
  · rw [step_heldReset hi hr]
    exact tickStep_of_rst rfl l
  · exact step_hostRead_of_rst hi hr ha h4

end Sys2Proof.Machine

namespace Sys2Proof.Machine

/-! ### Proofs: decoding and encoding are inverse (R80 to R85, R87) -/

/-! #### The fields of an encoded word -/

/-- An operand placed above a match value adds up with it: the two share no bit. -/
theorem operand_or_toNat {n : Nat} (x : BitVec n) {sh : Nat} (m : Word) (hsh : n + sh ≤ 32) (hm : m.toNat < 2 ^ sh) :
    ((x.setWidth 32 <<< sh) ||| m).toNat = 2 ^ sh * x.toNat + m.toNat := by
  have hx : x.toNat < 2 ^ n := x.isLt
  have hfit : 2 ^ sh * x.toNat < 2 ^ 32 :=
    calc 2 ^ sh * x.toNat < 2 ^ sh * 2 ^ n := Nat.mul_lt_mul_of_pos_left hx (by positivity)
      _ = 2 ^ (n + sh) := by rw [Nat.add_comm, Nat.pow_add]
      _ ≤ 2 ^ 32 := Nat.pow_le_pow_right (by decide) hsh
  have hwide : x.toNat < 2 ^ 32 := hx.trans_le (Nat.pow_le_pow_right (by decide) (by omega))
  have hplace : (x.setWidth 32 <<< sh).toNat = x.toNat <<< sh := by
    rw [BitVec.toNat_shiftLeft, BitVec.toNat_setWidth, Nat.mod_eq_of_lt hwide, Nat.shiftLeft_eq, Nat.mul_comm,
      Nat.mod_eq_of_lt hfit]
  rw [BitVec.toNat_or, hplace, ← Nat.shiftLeft_add_eq_or_of_lt hm, Nat.shiftLeft_eq, Nat.mul_comm]

/-- The fields of a word given as the sum of OP and the operands. -/
theorem fields_of_encoded {w : Word} {op : BitVec 4} {a8 : Byte} {a16 : Half}
    (h : w.toNat = op.toNat + 256 * a8.toNat + 65536 * a16.toNat) :
    opOf w = op ∧ rsvOf w = 0 ∧ arg8Of w = a8 ∧ arg16Of w = a16 := by
  obtain ⟨hop, hrest⟩ := fields_of_toNat h op.isLt
  exact ⟨BitVec.eq_of_toNat_eq hop, hrest⟩

/-- The operand of WRITE_BIT as ARG8 holds it (R82). -/
def bitByte (b : Bool) : Byte := (BitVec.ofBool b).setWidth 8

/-- A command with an operand is encoded with its OP, no reserved bit, and the operand in its field (R80 to R82). -/
theorem encode_writeBit_fields (b : Bool) : ∃ w, encode (.writeBit b) = .cmd w ∧
    opOf w = 3 ∧ rsvOf w = 0 ∧ arg8Of w = bitByte b ∧ arg16Of w = 0 := by
  refine ⟨_, rfl, fields_of_encoded ?_⟩
  cases b <;> rfl

theorem encode_writeByte_fields (v : Byte) : ∃ w, encode (.writeByte v) = .cmd w ∧
    opOf w = 5 ∧ rsvOf w = 0 ∧ arg8Of w = v ∧ arg16Of w = 0 := by
  refine ⟨_, rfl, fields_of_encoded ?_⟩
  rw [operand_or_toNat v _ (by decide) (by decide)]
  simp [Nat.add_comm]

theorem encode_delay_fields (n : Half) : ∃ w, encode (.delay n) = .cmd w ∧
    opOf w = 7 ∧ rsvOf w = 0 ∧ arg8Of w = 0 ∧ arg16Of w = n := by
  refine ⟨_, rfl, fields_of_encoded ?_⟩
  rw [operand_or_toNat n _ (by decide) (by decide)]
  simp [Nat.add_comm]

/-! #### The two round trips -/

/-- Settles O1: a word with an operand decodes by its fields, every other code is one word or byte and is evaluated. -/
theorem decodeOfEncodeIsIdentity : Obligations.DecodeOfEncodeIsIdentity := by
  unfold Obligations.DecodeOfEncodeIsIdentity
  intro i
  cases i with
  | writeBit b => cases b <;> rfl
  | writeByte v =>
    obtain ⟨w, hw, hop, hrsv, h8, h16⟩ := encode_writeByte_fields v
    simp [hw, decodeCode, decode, hop, checkFields_ok, hrsv, h8, h16]
  | delay n =>
    obtain ⟨w, hw, hop, hrsv, h8, h16⟩ := encode_delay_fields n
    simp [hw, decodeCode, decode, hop, checkFields_ok, hrsv, h8, h16]
  | _ => rfl

/-- A word with nothing but an OP is that OP. -/
theorem word_eq_of_op {w : Word} {op : BitVec 4} (hop : opOf w = op) (hrsv : rsvOf w = 0) (h8 : arg8Of w = 0)
    (h16 : arg16Of w = 0) : op.setWidth 32 = w := by
  refine BitVec.eq_of_toNat_eq ?_
  rw [toNat_eq_fields w, hop, hrsv, h8, h16, BitVec.toNat_setWidth_of_le (by decide)]
  rfl

/-- An ARG8 without spare bits for WRITE_BIT holds its bit 0 and nothing else (R82, R84). -/
theorem bitByte_getLsbD_zero {a8 : Byte} (h : a8 &&& 0xFE = 0) : bitByte (a8.getLsbD 0) = a8 := by
  revert h a8; decide

/-- A legal word is the encoding of what it decodes to: its OP is the command's, its operand the command's, the rest 0. -/
theorem encode_of_decode {w : Word} {i : Instr} (h : decode w = .ok i) : encode i = .cmd w := by
  obtain ⟨hrsv, hi⟩ := decode_cases h
  rcases hi with ⟨rfl, hop, h8, h16⟩ | ⟨rfl, hop, h8, h16⟩ | ⟨rfl, hop, h8, h16⟩ | ⟨rfl, hop, h8, h16⟩ | ⟨rfl, hop, h16⟩ |
    ⟨rfl, hop, h8, h16⟩ | ⟨rfl, hop, h8⟩ | ⟨rfl, hop, h8, h16⟩ | ⟨rfl, hop, h8, h16⟩
  · exact congrArg Code.cmd (word_eq_of_op hop hrsv h8 h16)
  · exact congrArg Code.cmd (word_eq_of_op hop hrsv h8 h16)
  · obtain ⟨v, hv, vop, vrsv, v8, v16⟩ := encode_writeBit_fields ((arg8Of w).getLsbD 0)
    rw [hv, word_eq_iff.mpr ⟨vop.trans hop.symm, vrsv.trans hrsv.symm, v8.trans (bitByte_getLsbD_zero h8), v16.trans h16.symm⟩]
  · exact congrArg Code.cmd (word_eq_of_op hop hrsv h8 h16)
  · obtain ⟨v, hv, vop, vrsv, v8, v16⟩ := encode_writeByte_fields (arg8Of w)
    rw [hv, word_eq_iff.mpr ⟨vop.trans hop.symm, vrsv.trans hrsv.symm, v8, v16.trans h16.symm⟩]
  · exact congrArg Code.cmd (word_eq_of_op hop hrsv h8 h16)
  · obtain ⟨v, hv, vop, vrsv, v8, v16⟩ := encode_delay_fields (arg16Of w)
    rw [hv, word_eq_iff.mpr ⟨vop.trans hop.symm, vrsv.trans hrsv.symm, v8.trans h8.symm, v16⟩]
  · exact congrArg Code.cmd (word_eq_of_op hop hrsv h8 h16)
  · exact congrArg Code.cmd (word_eq_of_op hop hrsv h8 h16)

/-- Settles O2: a legal word is `encode_of_decode`, and each of R87's three bytes is evaluated. -/
theorem encodeOfDecodeIsIdentity : Obligations.EncodeOfDecodeIsIdentity := by
  unfold Obligations.EncodeOfDecodeIsIdentity
  intro c i h
  cases c with
  | cmd w => exact encode_of_decode h
  | wire b => rcases decodeWire_cases h with ⟨rfl, rfl⟩ | ⟨rfl, rfl⟩ | ⟨rfl, rfl⟩ <;> rfl

/-! #### The operands and the wire bytes -/

/-- Settles O5: `decode_cases` gives each operand as its field, and the field is its bits of the word. -/
theorem operandsComeFromTheirFields : Obligations.OperandsComeFromTheirFields := by
  unfold Obligations.OperandsComeFromTheirFields
  intro w
  refine ⟨fun b h => ?_, fun v h => ?_, fun n h => ?_⟩
  · obtain ⟨rfl, -⟩ : b = (arg8Of w).getLsbD 0 ∧ _ := by simpa using (decode_cases h).2
    simp [arg8Of]
  · obtain ⟨rfl, -⟩ : v = arg8Of w ∧ _ := by simpa using (decode_cases h).2
    exact arg8Of_toNat w
  · obtain ⟨rfl, -⟩ : n = arg16Of w ∧ _ := by simpa using (decode_cases h).2
    exact arg16Of_toNat w

/-- Settles O7: a byte that decodes is one of the three (`decodeWire_cases`), and each of them is evaluated. -/
theorem wireBytesDecodeInWireOrder : Obligations.WireBytesDecodeInWireOrder := by
  unfold Obligations.WireBytesDecodeInWireOrder
  refine ⟨fun b i => ⟨decodeWire_cases, fun h => ?_⟩, by decide, by decide, by decide⟩
  rcases h with ⟨rfl, rfl⟩ | ⟨rfl, rfl⟩ | ⟨rfl, rfl⟩ <;> rfl

end Sys2Proof.Machine

namespace Sys2Proof.Machine

/-! ### Proofs: what every step keeps (R45 to R47, R119, R163) -/

/-! #### An invariant is kept by every step where each thing a step does keeps it -/

/-- Each thing a step does keeps `I` in the states that meet `C`. -/
structure KeptWithin (C I : State → Prop) : Prop where
  /-- `rst` is held (R230). -/
  reset : ∀ s, C s → I s → I (underReset s)
  /-- The error bits, the `rst` port, the read data and the inputs change. -/
  outside : ∀ (s : State) (ill ovr rst : Bool) (rdata : Word) (inputs : List Event), C s → I s →
    I { s with errIll := ill, errOvr := ovr, rst := rst, rdata := rdata, inputs := inputs }
  /-- A tick is counted (R44(a)). -/
  count : ∀ l s, C s → I s → I (countTick l s)
  /-- A legal word is accepted (R200). -/
  accept : ∀ w i s, s.busy = false → decode w = .ok i → C s → I s → I (accept w i s)
  /-- The pending command starts (R44(b)). -/
  start : ∀ i s, s.pend = true → C s → I s → I (start Config.params (commandProg i) s)
  /-- A WAIT completes, and what is left after it runs (R44(c), (d)). -/
  goOn : ∀ k s, s.mp = .waiting k → C s → I s → I (run Config.params k s)
  /-- The wire byte the sequencer stands at is sent (R44(d)). -/
  send : ∀ b k s, s.mp = .atWire b k → C s → I s → I (sendWireByte Config.params b s)

/-- Each thing a step does keeps `I`. -/
abbrev Kept (I : State → Prop) : Prop := KeptWithin (fun _ => True) I

/-- What is kept within the states of a kept invariant is, together with that invariant, kept. -/
theorem KeptWithin.and {C I : State → Prop} (hC : Kept C) (h : KeptWithin C I) : Kept (fun s => C s ∧ I s) where
  reset s _ hs := ⟨hC.reset s trivial hs.1, h.reset s hs.1 hs.2⟩
  outside s a b c d e _ hs := ⟨hC.outside s a b c d e trivial hs.1, h.outside s a b c d e hs.1 hs.2⟩
  count l s _ hs := ⟨hC.count l s trivial hs.1, h.count l s hs.1 hs.2⟩
  accept w i s hb hd _ hs := ⟨hC.accept w i s hb hd trivial hs.1, h.accept w i s hb hd hs.1 hs.2⟩
  start i s hp _ hs := ⟨hC.start i s hp trivial hs.1, h.start i s hp hs.1 hs.2⟩
  goOn k s hm _ hs := ⟨hC.goOn k s hm trivial hs.1, h.goOn k s hm hs.1 hs.2⟩
  send b k s hm _ hs := ⟨hC.send b k s hm trivial hs.1, h.send b k s hm hs.1 hs.2⟩

/-- What R44(c) does: nothing, or the WAIT in progress completes and what is left after it runs. -/
theorem resume_cases (p : Params) (s : State) : resume p s = s ∨ ∃ k, s.mp = .waiting k ∧ resume p s = run p k s := by
  cases hm : s.mp with
  | waiting k =>
    rcases Nat.lt_or_ge s.tb.toNat s.wtgt with hlt | hge
    · exact .inl (resume_holds hm hlt)
    · exact .inr ⟨k, rfl, resume_completes hm hge⟩
  | empty => exact .inl (resume_idle (by simp [hm]))
  | atWire b k => exact .inl (resume_idle (by simp [hm]))

section
variable {I : State → Prop} (h : Kept I)
include h

theorem Kept.settle {s : State} (hs : I s) : I (settle s) := by
  cases hr : s.rst with
  | false => rwa [settle_of_not_rst hr]
  | true => rw [settle_of_rst hr]; exact h.reset s trivial hs

theorem Kept.resume {s : State} (hs : I s) : I (resume Config.params s) := by
  rcases resume_cases Config.params s with e | ⟨k, hm, e⟩ <;> rw [e]
  · exact hs
  · exact h.goOn k s hm trivial hs

theorem Kept.tickStep {l : Bool} {s s' : State} (hs : I s) (ht : tickStep l s = .next s') : I s' := by
  rcases tickStep_cases ht with ⟨-, rfl⟩ | ⟨-, hp, i, hd, he⟩ | ⟨-, -, he⟩
  · exact hs
  · rw [exec_command hd] at he
    cases he
    exact h.start i _ hp trivial (h.count l s trivial hs)
  · have hr : I (Machine.resume Config.params (countTick l s)) := h.resume (h.count l s trivial hs)
    rcases sendFetchedByte_cases he with ⟨-, rfl⟩ | ⟨b, k, i, hm, -, rfl⟩
    · exact hr
    · exact h.send b k _ hm trivial hr

theorem Kept.writeReg (r : Reg) (v : Word) {s : State} (hs : I s) : I (writeReg r v s) := by
  rcases writeReg_cases r v s with ⟨-, e⟩ | ⟨-, e⟩ | ⟨-, -, e⟩ <;> rw [e]
  · rcases acceptStep_cases v s with ⟨-, e⟩ | ⟨-, -, e⟩ | ⟨i, hb, hd, e⟩ <;> rw [e]
    · exact h.outside s s.errIll true s.rst s.rdata s.inputs trivial hs
    · exact h.outside s true s.errOvr s.rst s.rdata s.inputs trivial hs
    · exact h.accept v i s hb hd trivial hs
  · exact h.outside s _ _ s.rst s.rdata s.inputs trivial hs
  · exact hs

theorem Kept.handle {e : Event} {s s' : State} (hs : I s) (he : handle e s = .next s') : I s' := by
  cases e with
  | tick l => exact h.tickStep hs he
  | hostRead addr size =>
    obtain ⟨off, -, rfl⟩ := hostRead_cases he
    exact h.outside s s.errIll s.errOvr s.rst _ s.inputs trivial hs
  | hostWrite addr size v =>
    obtain ⟨off, -, rfl⟩ := hostWrite_cases he
    split
    · exact hs
    · exact h.writeReg _ v hs
  | rst l =>
    cases he
    cases l with
    | false => exact h.outside s s.errIll s.errOvr false s.rdata s.inputs trivial hs
    | true => exact h.outside _ false false true s.rdata s.inputs trivial (h.reset s trivial hs)

/-- A kept invariant holds of every next state. -/
theorem Kept.step {s s' : State} (hs : I s) (he : step s = .next s') : I s' := by
  rcases step_cases he with ⟨-, rfl⟩ | ⟨e, rest, -, he⟩
  · exact hs
  · exact h.handle (h.settle (h.outside s s.errIll s.errOvr s.rst s.rdata rest trivial hs)) he

end

/-! #### The control state (R46) -/

/-- Settles O43: `step_keeps_controlInv`, by what a step can do. -/
theorem controlInvKeptByEveryStep : Obligations.ControlInvKeptByEveryStep := by
  unfold Obligations.ControlInvKeptByEveryStep
  exact fun s s' => step_keeps_controlInv

/-- At a WAIT, what is left after it is safe from the present drive. -/
theorem lineSafe_of_waiting {k : Prog} {s : State} (h : ControlInv s) (hm : s.mp = .waiting k) : k.lineSafe s.drive = true := by
  obtain ⟨-, -, -, -, hsafe⟩ := h
  rwa [hm] at hsafe

/-- At a wire byte, it is one of R87's and what is left after it is safe from a released line. -/
theorem lineSafe_of_atWire {b : Byte} {k : Prog} {s : State} (h : ControlInv s) (hm : s.mp = .atWire b k) :
    (∃ i, decodeWire b = .ok i) ∧ k.lineSafe false = true := by
  obtain ⟨-, -, -, -, hsafe⟩ := h
  rw [hm] at hsafe
  obtain ⟨hb, hk⟩ := Bool.and_eq_true_iff.mp hsafe
  exact ⟨instrOf_isSome.mp hb, hk⟩

/-- The sending of a byte, and what is left after it, is safe from any drive. -/
theorem lineSafe_writeByte_rest {b : Byte} {k : Prog} {s : State} (h : ControlInv s) (hm : s.mp = .atWire b k) :
    (writeByte Config.params b s.mp.rest).lineSafe s.drive = true := by
  rw [lineSafe_writeByte, hm]
  exact (lineSafe_of_atWire h hm).2

/-- A pending command's micro-program is safe from the present drive. -/
theorem lineSafe_of_pend {s : State} (h : ControlInv s) (hp : s.pend = true) (i : Instr) :
    (commandProg i).lineSafe s.drive = true := by
  obtain ⟨-, -, hpend, -⟩ := h
  obtain ⟨-, hdrive, -⟩ := hpend hp
  rw [hdrive]
  exact lineSafe_commandProg i

theorem controlInv_kept : Kept ControlInv where
  reset s _ _ := controlInv_underReset s
  outside _ _ _ _ _ _ _ h := h
  count _ _ _ h := h
  accept w i s hb hd _ h := by
    obtain ⟨-, -, hmp, hdrive⟩ := h.1 hb
    simp [ControlInv, hmp, hdrive, hd, initialSeq_ne_idle, Position.lineSafe]
  start _ _ hp _ h := controlInv_start h hp
  goOn _ _ hm _ h := controlInv_run _ (runnable_of_position h (by simp [hm]) (lineSafe_of_waiting h hm))
  send _ _ _ hm _ h := controlInv_run _ (runnable_of_position h (by simp [hm]) (lineSafe_writeByte_rest h hm))

/-- An idle controller stands in no micro-program. -/
theorem mp_of_not_busy {s : State} (h : ControlInv s) (hb : s.busy = false) : s.mp = .empty := by
  obtain ⟨-, -, hmp, -⟩ := h.1 hb
  exact hmp

/-! #### TRACE and DRIVE (R47, R119) -/

theorem traceDrive_low {l : List LineEvent} {d : Bool} (h : traceDrive l = some d) (t : Nat) :
    traceDrive (l ++ [.low t]) = some true := by
  rw [traceDrive] at h ⊢
  simp [h]

theorem traceDrive_rel {l : List LineEvent} {d : Bool} (h : traceDrive l = some d) (t : Nat) :
    traceDrive (l ++ [.rel t]) = some false := by
  rw [traceDrive] at h ⊢
  simp [h]

theorem traceDrive_smp {l : List LineEvent} (h : traceDrive l = some false) (t : Nat) (v : Bool) :
    traceDrive (l ++ [.smp t v]) = some false := by
  rw [traceDrive] at h ⊢
  simp [h]

/-- A micro-op that is safe records the drive it leaves. -/
theorem waveformInv_applyOp (p : Params) {o : MicroOp} {k : Prog} {s : State} (hk : (Prog.op o k).lineSafe s.drive = true)
    (h : WaveformInv s) : WaveformInv (applyOp p o s) := by
  cases o with
  | low => exact traceDrive_low h s.gt
  | rel => exact traceDrive_rel h s.gt
  | smp r =>
    have hreleased : s.drive = false := by simpa using (Bool.and_eq_true_iff.mp hk).1
    have hsmp : traceDrive (s.trace ++ [.smp s.gt s.owIn]) = some s.drive := by
      rw [WaveformInv, hreleased] at h
      rw [hreleased]
      exact traceDrive_smp h s.gt s.owIn
    cases r <;> exact hsmp
  | setPres f => cases f <;> exact h
  | _ => exact h

/-- A safe micro-program records the drive it leaves and samples nothing while the line is low. -/
theorem waveformInv_run (p : Params) {k : Prog} {s : State} (hk : k.lineSafe s.drive = true) (h : WaveformInv s) :
    WaveformInv (run p k s) :=
  run_induction p (R := fun k t => k.lineSafe t.drive = true ∧ WaveformInv t) (Q := WaveformInv)
    (hdone := fun _ h => h.2)
    (hop := fun _ _ _ h => ⟨lineSafe_applyOp p h.1, waveformInv_applyOp p h.1 h.2⟩)
    (hzero := fun _ _ _ h => h)
    (hwait := fun _ _ _ h => h.2)
    (hwire := fun _ _ _ h => h.2)
    (hyes := fun _ _ _ _ h _ => ⟨(Bool.and_eq_true_iff.mp h.1).1, h.2⟩)
    (hno := fun _ _ _ _ h _ => ⟨(Bool.and_eq_true_iff.mp h.1).2, h.2⟩)
    k s ⟨hk, h⟩

theorem waveformInv_kept : KeptWithin ControlInv WaveformInv where
  reset _ _ _ := rfl
  outside _ _ _ _ _ _ _ h := h
  count _ _ _ h := h
  accept _ _ _ _ _ _ h := h
  start i s hp hc h := waveformInv_run _ (s := { s with pend := false }) (lineSafe_of_pend hc hp i) h
  goOn _ _ hm hc h := waveformInv_run _ (lineSafe_of_waiting hc hm) h
  send _ _ _ hm hc h := waveformInv_run _ (lineSafe_writeByte_rest hc hm) h

/-- Settles O46: a step runs micro-programs that are safe from the present drive, and those record the drive they leave. -/
theorem waveformAgreesWithDrive : Obligations.WaveformAgreesWithDrive := by
  unfold Obligations.WaveformAgreesWithDrive
  exact fun s s' hc h hs => ((controlInv_kept.and waveformInv_kept).step ⟨hc, h⟩ hs).2

/-! #### The order of TRACE (R47) -/

/-- An event of the present moment keeps TRACE in order. -/
theorem timedInv_append {s : State} (h : TimedInv s) {e : LineEvent} (he : e.time = s.gt) (drive s1 s2 rb : Bool) :
    TimedInv { s with drive := drive, s1 := s1, s2 := s2, rb := rb, trace := s.trace ++ [e] } := by
  obtain ⟨horder, hpast⟩ := h
  refine ⟨?_, fun f hf => ?_⟩
  · rw [List.map_append, List.pairwise_append]
    refine ⟨horder, List.pairwise_singleton _ _, fun a ha b hb => ?_⟩
    obtain ⟨f, hf, rfl⟩ := List.mem_map.mp ha
    have hb : b = s.gt := by simpa [he] using hb
    exact hb ▸ hpast f hf
  · rcases List.mem_append.mp hf with hf | hf
    · exact hpast f hf
    · exact (List.mem_singleton.mp hf ▸ he).le

theorem timedInv_applyOp (p : Params) (o : MicroOp) {s : State} (h : TimedInv s) : TimedInv (applyOp p o s) := by
  cases o with
  | low => exact timedInv_append h rfl ..
  | rel => exact timedInv_append h rfl ..
  | smp r => cases r <;> exact timedInv_append h rfl ..
  | setPres f => cases f <;> exact h
  | _ => exact h

theorem timedInv_run (p : Params) (k : Prog) {s : State} (h : TimedInv s) : TimedInv (run p k s) :=
  run_induction p (R := fun _ => TimedInv) (Q := TimedInv)
    (hdone := fun _ h => h)
    (hop := fun o _ _ h => timedInv_applyOp p o h)
    (hzero := fun _ _ _ h => h)
    (hwait := fun _ _ _ h => h)
    (hwire := fun _ _ _ h => h)
    (hyes := fun _ _ _ _ h _ => h)
    (hno := fun _ _ _ _ h _ => h)
    k s h

theorem timedInv_kept : Kept TimedInv where
  reset _ _ _ := ⟨List.Pairwise.nil, nofun⟩
  outside _ _ _ _ _ _ _ h := h
  count _ _ _ h := ⟨h.1, fun e he => Nat.le_succ_of_le (h.2 e he)⟩
  accept _ _ _ _ _ _ h := h
  start _ s _ _ h := timedInv_run _ _ (s := { s with pend := false }) h
  goOn k _ _ _ h := timedInv_run _ k h
  send _ _ _ _ _ h := timedInv_run _ _ h

/-- Settles O47: a micro-op records its event at the present GT, and GT only counts on. -/
theorem traceStaysInTimeOrder : Obligations.TraceStaysInTimeOrder := by
  unfold Obligations.TraceStaysInTimeOrder
  exact fun s s' => timedInv_kept.step

end Sys2Proof.Machine

namespace Sys2Proof.Machine

/-! ### Proofs: the decoded fields, the counters and the error bits in every step (R39, R45, R163) -/

/-! #### The decoded fields (R163) -/

/-- Nine bytes stored, or at least one, leave the decoded fields stale (R156). -/
theorem settles_scratchpadReads (p : Params) (k : Prog) (f : Bool) (n : Nat) :
    (scratchpadReads p (n + 1) k).settles f = k.settles false := by
  induction n generalizing f with
  | zero => rfl
  | succ n ih =>
    rw [scratchpadReads, settles_readByte, Prog.settles]
    exact ih false

/-- Phase 2's block decodes after the last byte stored (R157). -/
theorem settles_phase2Block (p : Params) (k : Prog) (f : Bool) : (phase2Block p k).settles f = k.settles true := by
  simp only [phase2Block, Prog.settles, settles_scratchpadReads]

theorem settles_conversionWait (p : Params) : (conversionWait p).settles true = true := by
  have hphase2 : (phase2 p).settles true = ((phase2Block p (phase3 p)).settles true && (phase3 p).settles true) := rfl
  have hphase3 : (phase3 p).settles true = true := rfl
  have hprog : (conversionWait p).settles true = (convertWaits p p.convertLoops (phase2 p)).settles true := rfl
  rw [hprog, settles_convertWaits, hphase2, settles_phase2Block, hphase3]
  rfl

/-- Whatever command starts on fresh decoded fields ends with fresh ones. -/
theorem settles_commandProg (i : Instr) : (commandProg i).settles true = true := by
  cases i with
  | readTemperature =>
    have hprog : (readTemperatureProg Config.params).settles true =
        ((conversionWait Config.params).settles true && (conversionWait Config.params).settles true) := rfl
    rw [commandProg, hprog, settles_conversionWait, Bool.and_self]
  | _ => rfl

/-- The decoded fields equal `Decode(SP)` and the micro-program `k` leaves them so, or `k` will decode. -/
def WillSettle (k : Prog) (s : State) : Prop := (Fresh s ∧ k.settles true = true) ∨ k.settles false = true

theorem WillSettle.applyOp {o : MicroOp} {k : Prog} {s : State} (h : WillSettle (.op o k) s) :
    WillSettle k (applyOp Config.params o s) := by
  cases o with
  | storeSp => exact .inr (h.elim And.right id)
  | decodeSp => exact .inl ⟨⟨rfl, rfl, rfl, rfl⟩, h.elim And.right id⟩
  | smp r => cases r <;> exact h
  | setPres f => cases f <;> exact h
  | _ => exact h

/-- A micro-program that will settle keeps the invariant wherever it stops. -/
theorem decodeInv_run {k : Prog} {s : State} (hp : s.pend = false) (h : WillSettle k s) : DecodeInv (run Config.params k s) := by
  refine run_induction Config.params (R := fun k t => t.pend = false ∧ WillSettle k t) (Q := DecodeInv)
    (hdone := fun t h => .inl ⟨h.2.elim And.left nofun, rfl⟩)
    (hop := fun o k t ⟨ht, hk⟩ => ?_)
    (hzero := fun _ _ _ h => h)
    (hwait := fun _ _ _ h => h.2.imp id fun hs => ⟨h.1, hs⟩)
    (hwire := fun _ _ _ h => h.2.imp id fun hs => ⟨h.1, hs⟩)
    (hyes := fun _ _ _ _ h _ => ⟨h.1, h.2.imp (fun h => ⟨h.1, (Bool.and_eq_true_iff.mp h.2).1⟩) fun h =>
      (Bool.and_eq_true_iff.mp h).1⟩)
    (hno := fun _ _ _ _ h _ => ⟨h.1, h.2.imp (fun h => ⟨h.1, (Bool.and_eq_true_iff.mp h.2).2⟩) fun h =>
      (Bool.and_eq_true_iff.mp h).2⟩)
    k s ⟨hp, h⟩
  obtain ⟨-, -, -, -, hpend, -⟩ := applyOp_frame Config.params o t
  exact ⟨hpend.trans ht, hk.applyOp⟩

/-- Where no micro-program is running the decoded fields are fresh. -/
theorem fresh_of_mp_empty {s : State} (h : DecodeInv s) (hm : s.mp = .empty) : Fresh s := by
  rcases h with ⟨hfresh, -⟩ | ⟨-, hsettles⟩
  · exact hfresh
  · simp [hm, Position.settles] at hsettles

/-- A position's settling is that of the micro-program left there. -/
theorem willSettle_rest {s : State} (h : DecodeInv s) (hm : s.mp ≠ .empty) : WillSettle s.mp.rest s := by
  have hrest (f : Bool) : s.mp.settles f = s.mp.rest.settles f := by
    cases hp : s.mp with
    | empty => exact absurd hp hm
    | waiting k => rfl
    | atWire b k => rfl
  exact h.imp (fun h => ⟨h.1, hrest true ▸ h.2⟩) fun h => hrest false ▸ h.2

/-- Where a micro-program is under way, no command is pending. -/
theorem pend_of_mp {s : State} (h : ControlInv s) (hm : s.mp ≠ .empty) : s.pend = false := by
  obtain ⟨-, -, hpend, -⟩ := h
  exact Bool.eq_false_iff.mpr fun hp => hm (hpend hp).1

theorem decodeInv_kept : KeptWithin ControlInv DecodeInv where
  reset _ _ _ := .inl ⟨fresh_reset, rfl⟩
  outside _ _ _ _ _ _ _ h := h
  count _ _ _ h := h
  accept w i s hb _ hc h := by
    have hm := mp_of_not_busy hc hb
    have hfresh : Fresh s := fresh_of_mp_empty h hm
    exact .inl ⟨hfresh, by rw [accept_mp, hm]; rfl⟩
  start i s hp hc h := by
    obtain ⟨-, -, hpend, -⟩ := hc
    have hfresh : Fresh s := fresh_of_mp_empty h (hpend hp).1
    exact decodeInv_run rfl (.inl ⟨hfresh, settles_commandProg i⟩)
  goOn k s hm hc h := by
    have hk := willSettle_rest h (by simp [hm])
    rw [hm] at hk
    exact decodeInv_run (pend_of_mp hc (by simp [hm])) hk
  send b k s hm hc h := by
    have hne : s.mp ≠ .empty := by simp [hm]
    exact decodeInv_run (pend_of_mp hc hne) (willSettle_rest h hne)

/-- Settles O48: a step runs micro-programs that leave the decoded fields fresh, or decode after the last byte they store. -/
theorem decodeInvKeptByEveryStep : Obligations.DecodeInvKeptByEveryStep := by
  unfold Obligations.DecodeInvKeptByEveryStep
  exact fun s s' hc h hs => ((controlInv_kept.and decodeInv_kept).step ⟨hc, h⟩ hs).2

/-- Settles O49: an idle controller stands in no micro-program, so its decoded fields are fresh and DECODE writes the same again. -/
theorem idleStateIsDecoded : Obligations.IdleStateIsDecoded := by
  unfold Obligations.IdleStateIsDecoded
  intro s s' hc h hs hb
  obtain ⟨hc', h'⟩ := (controlInv_kept.and decodeInv_kept).step ⟨hc, h⟩ hs
  obtain ⟨hraw, hint, hfrac, hminus⟩ := fresh_of_mp_empty h' (mp_of_not_busy hc' hb)
  exact ⟨hraw, hint, hfrac, hminus, _, exec_decode s', hraw.symm, hint.symm, hfrac.symm, hminus.symm⟩

end Sys2Proof.Machine

namespace Sys2Proof.Machine

/-! #### The counters (R45) -/

/-- `n` scratchpad bytes count on in BYTECNT, each with its eight bits (R156). -/
theorem countsIn_scratchpadReads (p : Params) (k : Prog) (l : Nat) {j n : Nat} (h : j + n ≤ 9) :
    (scratchpadReads p n k).countsIn 8 j l = k.countsIn 8 (j + n) l := by
  induction n generalizing j with
  | zero => rfl
  | succ n ih =>
    have hj : j < 9 := by omega
    simp only [scratchpadReads, countsIn_readByte, Prog.countsIn, hj, decide_true, Bool.true_and]
    rw [ih (by omega), Nat.add_right_comm, Nat.add_assoc]

theorem countsIn_phase3 (p : Params) (i j l : Nat) : (phase3 p).countsIn i j l = true := rfl

/-- Phase 2's block restarts BYTECNT before its nine bytes (R156). -/
theorem countsIn_phase2Block (p : Params) (k : Prog) (i j l : Nat) : (phase2Block p k).countsIn i j l = k.countsIn 8 9 l := by
  simp only [phase2Block, Prog.countsIn]
  rw [countsIn_scratchpadReads p _ l (Nat.le_refl 9), Nat.zero_add]
  simp only [Prog.countsIn]

theorem countsIn_phase2 (p : Params) (i j l : Nat) : (phase2 p).countsIn i j l = true := by
  simp only [phase2, Prog.countsIn, countsIn_resetPresence, countsIn_phase2Block, countsIn_phase3, Bool.and_self]

/-- The conversion wait restarts LOOPCNT before its hundred chunks (R153). -/
theorem countsIn_conversionWait (i j l : Nat) : (conversionWait Config.params).countsIn i j l = true := by
  simp only [conversionWait, Prog.countsIn]
  rw [countsIn_convertWaits _ _ _ _ _ _ (by decide), countsIn_phase2]

/-- Whatever command starts keeps the counters in range, from any counts on: each loop restarts its counter. -/
theorem countsIn_commandProg (i : Instr) (bit byte loop : Nat) : (commandProg i).countsIn bit byte loop = true := by
  cases i with
  | readTemperature =>
    simp only [commandProg, readTemperatureProg, phase1Block, Prog.countsIn, countsIn_resetPresence, countsIn_conversionWait,
      Bool.and_self]
  | writeByte v => exact countsIn_writeByte ..
  | readByte => exact countsIn_readByte ..
  | _ => rfl

/-- The counters are in range, and the micro-program `k` keeps them so. -/
structure Counting (k : Prog) (s : State) : Prop where
  bit : s.bitcnt ≤ 8
  byte : s.bytecnt ≤ 9
  loop : s.loopcnt ≤ 100
  ahead : k.countsIn s.bitcnt s.bytecnt s.loopcnt = true

theorem Counting.applyOp (p : Params) {o : MicroOp} {k : Prog} {s : State} (h : Counting (.op o k) s) :
    Counting k (applyOp p o s) := by
  obtain ⟨hbit, hbyte, hloop, hk⟩ := h
  cases o with
  | loadShift v => exact ⟨Nat.zero_le 8, hbyte, hloop, hk⟩
  | clearBytes => exact ⟨hbit, Nat.zero_le 9, hloop, hk⟩
  | clearLoop => exact ⟨hbit, hbyte, Nat.zero_le 100, hk⟩
  | shiftOut | shiftIn =>
    obtain ⟨hlt, hk⟩ := Bool.and_eq_true_iff.mp hk
    exact ⟨of_decide_eq_true hlt, hbyte, hloop, hk⟩
  | storeSp =>
    obtain ⟨hlt, hk⟩ := Bool.and_eq_true_iff.mp hk
    exact ⟨hbit, of_decide_eq_true hlt, hloop, hk⟩
  | countLoop =>
    obtain ⟨hlt, hk⟩ := Bool.and_eq_true_iff.mp hk
    exact ⟨hbit, hbyte, of_decide_eq_true hlt, hk⟩
  | smp r => cases r <;> exact ⟨hbit, hbyte, hloop, hk⟩
  | setPres f => cases f <;> exact ⟨hbit, hbyte, hloop, hk⟩
  | _ => exact ⟨hbit, hbyte, hloop, hk⟩

theorem counterInv_run (p : Params) {k : Prog} {s : State} (h : Counting k s) : CounterInv (run p k s) :=
  run_induction p (R := Counting) (Q := CounterInv)
    (hdone := fun _ h => ⟨h.bit, h.byte, h.loop, rfl⟩)
    (hop := fun _ _ _ h => h.applyOp p)
    (hzero := fun _ _ _ h => ⟨h.bit, h.byte, h.loop, h.ahead⟩)
    (hwait := fun _ _ _ h => ⟨h.bit, h.byte, h.loop, h.ahead⟩)
    (hwire := fun _ _ _ h => ⟨h.bit, h.byte, h.loop, h.ahead⟩)
    (hyes := fun _ _ _ _ h _ => ⟨h.bit, h.byte, h.loop, (Bool.and_eq_true_iff.mp h.ahead).1⟩)
    (hno := fun _ _ _ _ h _ => ⟨h.bit, h.byte, h.loop, (Bool.and_eq_true_iff.mp h.ahead).2⟩)
    k s h

theorem counterInv_kept : Kept CounterInv where
  reset _ _ _ := ⟨Nat.zero_le 8, Nat.zero_le 9, Nat.zero_le 100, rfl⟩
  outside _ _ _ _ _ _ _ h := h
  count _ _ _ h := h
  accept _ _ _ _ _ _ h := h
  start i s _ _ h := by
    obtain ⟨hbit, hbyte, hloop, -⟩ := h
    exact counterInv_run _ ⟨hbit, hbyte, hloop, countsIn_commandProg i ..⟩
  goOn k s hm _ h := by
    obtain ⟨hbit, hbyte, hloop, hk⟩ := h
    rw [hm] at hk
    exact counterInv_run _ ⟨hbit, hbyte, hloop, hk⟩
  send b k s hm _ h := by
    obtain ⟨hbit, hbyte, hloop, hk⟩ := h
    rw [hm] at hk
    exact counterInv_run _ ⟨hbit, hbyte, hloop, by rw [countsIn_writeByte, hm]; exact hk⟩

/-- Settles O50: a step runs micro-programs that keep the counters in range, and stops where what is left does. -/
theorem countersStayInRange : Obligations.CountersStayInRange := by
  unfold Obligations.CountersStayInRange
  exact fun s s' => counterInv_kept.step

/-! #### The error bits (R39) -/

/-- No command but INIT clears the error bits. -/
theorem keepsErrors_commandProg {i : Instr} (h : i ≠ .init) : (commandProg i).keepsErrors = true := by
  cases i with
  | init => exact absurd rfl h
  | readTemperature =>
    simp only [commandProg, readTemperatureProg, phase1Block, conversionWait, phase2, phase2Block, phase3, Prog.keepsErrors,
      keepsErrors_resetPresence, keepsErrors_convertWaits, keepsErrors_scratchpadReads, Bool.and_self]
  | _ => rfl

/-- A micro-program that keeps the error bits does not begin with INIT's clearing, nor goes on with it. -/
theorem keepsErrors_op {o : MicroOp} {k : Prog} (h : (Prog.op o k).keepsErrors = true) :
    o ≠ .clearErrors ∧ k.keepsErrors = true := by
  cases o with
  | clearErrors => exact absurd h Bool.false_ne_true
  | _ => exact ⟨nofun, h⟩

/-- What a micro-program that keeps the error bits leaves, where it stops, keeps them too. -/
theorem errorInv_run (p : Params) {k : Prog} {s : State} (h : k.keepsErrors = true) : ErrorInv (run p k s) :=
  run_induction p (R := fun k _ => k.keepsErrors = true) (Q := ErrorInv)
    (hdone := fun _ _ => rfl)
    (hop := fun _ _ _ h => (keepsErrors_op h).2)
    (hzero := fun _ _ _ h => h)
    (hwait := fun _ _ _ h => h)
    (hwire := fun _ _ _ h => h)
    (hyes := fun _ _ _ _ h _ => (Bool.and_eq_true_iff.mp h).1)
    (hno := fun _ _ _ _ h _ => (Bool.and_eq_true_iff.mp h).2)
    k s h

theorem errorInv_kept : Kept ErrorInv where
  reset _ _ _ := rfl
  outside _ _ _ _ _ _ _ h := h
  count _ _ _ h := h
  accept _ _ _ _ _ _ h := h
  start i s _ _ _ := by
    by_cases hi : i = .init
    · subst hi; rfl
    · exact errorInv_run _ (keepsErrors_commandProg hi)
  goOn k s hm _ h := by
    rw [ErrorInv, hm] at h
    exact errorInv_run _ h
  send b k s _ _ h := errorInv_run _ ((keepsErrors_writeByte ..).trans h)

/-- Settles O11: INIT completes on its start tick, and no other micro-program clears the error bits. -/
theorem errorInvKeptByEveryStep : Obligations.ErrorInvKeptByEveryStep := by
  unfold Obligations.ErrorInvKeptByEveryStep
  exact fun s s' => errorInv_kept.step

/-- Settles O42: the reset state is idle with its fields decoded (`fresh_reset`), an empty TRACE and its counters at 0. -/
theorem invariantsHoldAtReset : Obligations.InvariantsHoldAtReset := by
  unfold Obligations.InvariantsHoldAtReset
  exact ⟨controlInv_underReset .reset, rfl, ⟨List.Pairwise.nil, nofun⟩, .inl ⟨fresh_reset, rfl⟩,
    ⟨Nat.zero_le 8, Nat.zero_le 9, Nat.zero_le 100, rfl⟩, rfl⟩

end Sys2Proof.Machine

namespace Sys2Proof.Machine

/-! ### Proofs: whole-machine rules (R39, R40, R64, R73, R200) -/

/-! #### What a host write can do -/

/-- A host write changes nothing, or it is one of STATUS or, not under reset, the accept step (R63, R230). -/
theorem hostWrite_effect {addr size : Nat} {v : Word} {s s' : State} (h : hostWrite Config.params addr size v s = .next s') :
    s' = s ∨ (addr = Config.base + 4 ∧ size = 4 ∧ s' = writeStatus v s) ∨
    (addr = Config.base ∧ size = 4 ∧ s.rst = false ∧ s' = acceptStep v s) := by
  obtain ⟨off, hoff, rfl⟩ := hostWrite_cases h
  obtain ⟨hsize, hbase, hdiff, -, -⟩ := accessOffset_ok.mp hoff
  have haddr : addr = Config.base + off := by
    rw [hdiff]; exact (Nat.add_sub_cancel' hbase).symm
  cases hr : s.rst with
  | true => exact .inl rfl
  | false =>
    rcases writeReg_cases (regAt off) v s with ⟨hcmd, e⟩ | ⟨hstatus, e⟩ | ⟨-, -, e⟩
    · exact .inr (.inr ⟨by rw [haddr, regAt_cmd.mp hcmd, Nat.add_zero], hsize, rfl, e⟩)
    · exact .inr (.inl ⟨by rw [haddr, regAt_status.mp hstatus], hsize, e⟩)
    · exact .inl e

/-- Settles O51: a read fills the host port; a write is of STATUS, or is refused with ERR_OVR, or changes nothing. -/
theorem hostAccessLeavesTheCommandAlone : Obligations.HostAccessLeavesTheCommandAlone := by
  unfold Obligations.HostAccessLeavesTheCommandAlone
  intro s s' e rest hi he hr hb hs
  rw [step_cons hi hr] at hs
  rcases he with ⟨addr, size, rfl⟩ | ⟨addr, size, v, rfl⟩
  · obtain ⟨off, -, rfl⟩ := hostRead_cases hs
    rfl
  · rcases hostWrite_effect hs with rfl | ⟨-, -, rfl⟩ | ⟨-, -, -, rfl⟩
    · rfl
    · rfl
    · rw [acceptStep_busy v (s := { s with inputs := rest }) hb]
      rfl

/-! #### What clears an error bit (R39) -/

/-- A micro-program that keeps the error bits leaves both as they were. -/
theorem run_errors (p : Params) {k : Prog} {s : State} (h : k.keepsErrors = true) :
    (run p k s).errIll = s.errIll ∧ (run p k s).errOvr = s.errOvr := by
  have hop {o : MicroOp} {t : State} (ho : o ≠ .clearErrors) :
      (applyOp p o t).errIll = t.errIll ∧ (applyOp p o t).errOvr = t.errOvr := by
    cases o with
    | clearErrors => exact absurd rfl ho
    | smp r => cases r <;> exact ⟨rfl, rfl⟩
    | setPres f => cases f <;> exact ⟨rfl, rfl⟩
    | _ => exact ⟨rfl, rfl⟩
  refine run_induction p
    (R := fun k t => k.keepsErrors = true ∧ t.errIll = s.errIll ∧ t.errOvr = s.errOvr)
    (Q := fun t => t.errIll = s.errIll ∧ t.errOvr = s.errOvr)
    (hdone := fun _ h => h.2)
    (hop := fun o k t ⟨hk, hill, hovr⟩ => ?_)
    (hzero := fun _ _ _ h => h)
    (hwait := fun _ _ _ h => h.2)
    (hwire := fun _ _ _ h => h.2)
    (hyes := fun _ _ _ _ h _ => ⟨(Bool.and_eq_true_iff.mp h.1).1, h.2⟩)
    (hno := fun _ _ _ _ h _ => ⟨(Bool.and_eq_true_iff.mp h.1).2, h.2⟩)
    k s ⟨h, rfl, rfl⟩
  obtain ⟨ho, hk⟩ := keepsErrors_op hk
  exact ⟨hk, (hop ho).1.trans hill, (hop ho).2.trans hovr⟩

/-- No error bit set in `s` is cleared in `t`. -/
def NoErrorCleared (s t : State) : Prop := NoErrorRaised t s

theorem noErrorCleared_run (p : Params) {k : Prog} {s : State} (h : k.keepsErrors = true) : NoErrorCleared s (run p k s) := by
  obtain ⟨hill, hovr⟩ := run_errors p (s := s) h
  exact ⟨hill.symm ▸ id, hovr.symm ▸ id⟩

theorem noErrorCleared_resume (p : Params) {s : State} (h : ErrorInv s) : NoErrorCleared s (resume p s) := by
  rcases resume_cases p s with e | ⟨k, hm, e⟩ <;> rw [e]
  · exact .refl s
  · rw [ErrorInv, hm] at h
    exact noErrorCleared_run p h

/-- A tick clears no error bit, unless it starts a pending INIT (R113). -/
theorem noErrorCleared_tickStep {l : Bool} {s s' : State} (hinv : ErrorInv s) (h : tickStep l s = .next s') :
    NoErrorCleared s s' ∨ (s.pend = true ∧ decode s.pcmd = .ok .init) := by
  rcases tickStep_cases h with ⟨-, rfl⟩ | ⟨-, hp, i, hd, he⟩ | ⟨-, -, he⟩
  · exact .inl (.refl _)
  · by_cases hi : i = .init
    · exact .inr ⟨hp, hi ▸ hd⟩
    · rw [exec_command hd] at he
      cases he
      exact .inl (noErrorCleared_run _ (s := { countTick l s with pend := false }) (keepsErrors_commandProg hi))
  · have hresume : NoErrorCleared s (resume Config.params (countTick l s)) := noErrorCleared_resume _ (s := countTick l s) hinv
    have hinv' : ErrorInv (resume Config.params (countTick l s)) := errorInv_kept.resume (s := countTick l s) hinv
    rcases sendFetchedByte_cases he with ⟨-, rfl⟩ | ⟨b, k, i, -, -, rfl⟩
    · exact .inl hresume
    · exact .inl (NoErrorRaised.trans (noErrorCleared_run _ ((keepsErrors_writeByte ..).trans hinv')) hresume)

/-- A step clears no error bit, or it is one of R39's: a write of STATUS, the start of INIT, reset. -/
theorem step_clears_cases {s s' : State} (hinv : ErrorInv s) (h : step s = .next s') :
    NoErrorCleared s s' ∨
    (∃ v rest, s.inputs = .hostWrite (Config.base + 4) 4 v :: rest ∧ s' = writeStatus v { s with inputs := rest }) ∨
    (∃ l rest, s.inputs = .tick l :: rest ∧ s.pend = true ∧ decode s.pcmd = .ok .init) ∨
    (∃ rest, s.inputs = .rst true :: rest) ∨ s.rst = true := by
  by_cases hrst : s.rst = true
  · exact .inr (.inr (.inr (.inr hrst)))
  have hr : s.rst = false := Bool.eq_false_iff.mpr hrst
  rcases step_cases h with ⟨-, rfl⟩ | ⟨e, rest, hi, he⟩
  · exact .inl (.refl _)
  rw [settle_of_not_rst (s := { s with inputs := rest }) hr] at he
  cases e with
  | tick l =>
    rcases noErrorCleared_tickStep (s := { s with inputs := rest }) hinv he with hno | ⟨hp, hd⟩
    · exact .inl hno
    · exact .inr (.inr (.inl ⟨l, rest, hi, hp, hd⟩))
  | hostRead addr size =>
    obtain ⟨off, -, rfl⟩ := hostRead_cases he
    exact .inl (.refl s)
  | hostWrite addr size v =>
    rcases hostWrite_effect he with rfl | ⟨rfl, rfl, rfl⟩ | ⟨-, -, -, rfl⟩
    · exact .inl (.refl s)
    · exact .inr (.inl ⟨v, rest, hi, rfl⟩)
    · rcases acceptStep_cases v { s with inputs := rest } with ⟨-, e⟩ | ⟨-, -, e⟩ | ⟨i, -, -, e⟩ <;> rw [e]
      · exact .inl ⟨id, fun _ => rfl⟩
      · exact .inl ⟨fun _ => rfl, id⟩
      · exact .inl (.refl s)
  | rst l =>
    cases l with
    | false => cases he; exact .inl (.refl s)
    | true => exact .inr (.inr (.inr (.inl ⟨rest, hi⟩)))

/-- Settles O10: the steps that clear an error bit are those of `step_clears_cases`, and a write of STATUS clears the bits it writes a
1 to. -/
theorem errorBitsStickUntilCleared : Obligations.ErrorBitsStickUntilCleared := by
  unfold Obligations.ErrorBitsStickUntilCleared
  intro s s' hinv hs
  have hbit {b c : Bool} (hb : b = true) (h : (b && !c) = false) : c = true := by simpa [hb] using h
  rcases step_clears_cases hinv hs with ⟨hill, hovr⟩ | ⟨v, rest, hi, rfl⟩ | hreset
  · exact ⟨fun h h' => absurd (hill h) (Bool.eq_false_iff.mp h'), fun h h' => absurd (hovr h) (Bool.eq_false_iff.mp h')⟩
  · exact ⟨fun h h' => .inl ⟨v, rest, hi, hbit h h'⟩, fun h h' => .inl ⟨v, rest, hi, hbit h h'⟩⟩
  · exact ⟨fun _ _ => .inr hreset, fun _ _ => .inr hreset⟩

/-! #### What sets BUSY (R40) -/

theorem busy_settle {s : State} (h : s.busy = false) : (settle s).busy = false := by
  cases hr : s.rst with
  | false => rwa [settle_of_not_rst hr]
  | true => rw [settle_of_rst hr]; rfl

/-- What R44(c) leaves alone: `rst` and GT; it sets neither BUSY nor PEND. -/
theorem resume_frame (p : Params) (s : State) :
    (resume p s).rst = s.rst ∧ (resume p s).gt = s.gt ∧ ((resume p s).busy = true → s.busy = true) ∧
    ((resume p s).pend = true → s.pend = true) := by
  rcases resume_cases p s with e | ⟨k, -, e⟩ <;> rw [e]
  · exact ⟨rfl, rfl, id, id⟩
  · obtain ⟨hrst, -, -, -, hgt, hbusy, hpend, -⟩ := run_frame p k s
    exact ⟨hrst, hgt, hbusy, hpend⟩

/-- No tick sets BUSY (R44). -/
theorem busy_tickStep {l : Bool} {s s' : State} (h : tickStep l s = .next s') (hb : s'.busy = true) : s.busy = true := by
  have hrun {k : Prog} {t : State} : (run Config.params k t).busy = true → t.busy = true := by
    obtain ⟨-, -, -, -, -, hbusy, -⟩ := run_frame Config.params k t
    exact hbusy
  obtain ⟨-, -, hresume, -⟩ := resume_frame Config.params (countTick l s)
  rcases tickStep_cases h with ⟨-, rfl⟩ | ⟨-, -, i, hd, he⟩ | ⟨-, -, he⟩
  · exact hb
  · rw [exec_command hd] at he
    cases he
    exact hrun (t := { countTick l s with pend := false }) hb
  · rcases sendFetchedByte_cases he with ⟨-, rfl⟩ | ⟨b, k, i, -, -, rfl⟩
    · exact hresume hb
    · exact hresume (hrun hb)

/-- Settles O53: of what a step can do, only the acceptance of a legal word sets BUSY. -/
theorem onlyAnAcceptedWordSetsBusy : Obligations.OnlyAnAcceptedWordSetsBusy := by
  unfold Obligations.OnlyAnAcceptedWordSetsBusy
  intro s s' hs hb hb'
  rcases step_cases hs with ⟨-, rfl⟩ | ⟨e, rest, hi, he⟩
  · simp [hb] at hb'
  have hidle : (settle { s with inputs := rest }).busy = false := busy_settle hb
  cases e with
  | tick l => exact absurd (busy_tickStep he hb') (Bool.eq_false_iff.mp hidle)
  | hostRead addr size =>
    obtain ⟨off, -, rfl⟩ := hostRead_cases he
    simp [hidle] at hb'
  | hostWrite addr size v =>
    rcases hostWrite_effect he with rfl | ⟨-, -, rfl⟩ | ⟨rfl, rfl, hr, rfl⟩
    · simp [hidle] at hb'
    · simp [hidle] at hb'
    · rcases acceptStep_cases v (settle { s with inputs := rest }) with ⟨-, e⟩ | ⟨-, -, e⟩ | ⟨i, -, hd, -⟩
      · simp [e, raise, hidle] at hb'
      · simp [e, raise, hidle] at hb'
      · refine ⟨v, rest, i, hi, ?_, hd⟩
        rwa [settle_eq_self hr] at hr
  | rst l =>
    cases he
    cases l with
    | false => exact absurd hb' (Bool.eq_false_iff.mp hidle)
    | true => cases hb'

/-! #### No step faults in a legal control state (R64) -/

/-- From a legal control state a tick answers a next state: a pending word is legal, and so is a wire byte the sequencer comes to. -/
theorem tickStep_next {l : Bool} {s : State} (h : ControlInv s) : ∃ s', tickStep l s = .next s' := by
  unfold tickStep
  split
  · exact ⟨s, rfl⟩
  have hcount : ControlInv (countTick l s) := h
  simp only
  split
  case isTrue hp =>
    obtain ⟨-, -, hpend, -⟩ := hcount
    obtain ⟨-, -, hword⟩ := hpend hp
    obtain ⟨i, hi⟩ := instrOf_isSome.mp hword
    rw [startPending, hi]
    exact ⟨_, exec_command hi _⟩
  case isFalse =>
    have hinv := controlInv_resume Config.params hcount
    cases hm : (resume Config.params (countTick l s)).mp with
    | empty => simp [sendFetchedByte, hm]
    | waiting k => simp [sendFetchedByte, hm]
    | atWire b k =>
      obtain ⟨⟨i, hi⟩, -⟩ := lineSafe_of_atWire hinv hm
      simp [sendFetchedByte, hm, hi, exec_wire hi]

/-- Settles O45: a tick answers a next state (`tickStep_next`), and so does a host access unless it names no offset. -/
theorem noStepFaultsFromLegalStates : Obligations.NoStepFaultsFromLegalStates := by
  unfold Obligations.NoStepFaultsFromLegalStates
  intro s h
  cases hi : s.inputs with
  | nil => exact .inl ⟨s, by rw [step, hi]⟩
  | cons e rest =>
    rw [step_of_inputs hi]
    cases e with
    | tick l => exact .inl (tickStep_next (controlInv_settle (s := { s with inputs := rest }) h))
    | rst l => exact .inl ⟨_, rfl⟩
    | hostRead addr size =>
      cases ho : accessOffset Config.params addr size with
      | ok off => exact .inl (hostRead_of_offset ho _)
      | error r =>
        rw [handle, hostRead_of_refusal ho]
        exact .inr ⟨by simpa using accessOffset_error ho, addr, size, rest, .inl rfl⟩
    | hostWrite addr size v =>
      cases ho : accessOffset Config.params addr size with
      | ok off => exact .inl (hostWrite_of_offset ho v _)
      | error r =>
        rw [handle, hostWrite_of_refusal ho]
        exact .inr ⟨by simpa using accessOffset_error ho, addr, size, rest, .inr ⟨v, rfl⟩⟩

end Sys2Proof.Machine

namespace Sys2Proof.Machine

/-! #### No tick reads the error bits (R39) -/

theorem sameButErrors_applyOp (p : Params) (o : MicroOp) {s t : State} (h : SameButErrors s t) :
    SameButErrors (applyOp p o s) (applyOp p o t) := by
  rw [SameButErrors] at h
  rw [h]
  cases o with
  | smp r => cases r <;> rfl
  | setPres f => cases f <;> rfl
  | _ => rfl

/-- A micro-program takes the same way whatever the error bits are. -/
theorem sameButErrors_run (p : Params) (k : Prog) {s t : State} (h : SameButErrors s t) :
    SameButErrors (run p k s) (run p k t) := by
  induction k generalizing s t with
  | done => rw [SameButErrors] at h; rw [h]; rfl
  | op o k ih => exact ih (sameButErrors_applyOp p o h)
  | wait n k ih =>
    have hcount : n.value t = n.value s := by
      rw [SameButErrors] at h
      rw [h]
      cases n with
      | ticks n => rfl
      | byBit src one zero => cases src <;> rfl
    have hstart : SameButErrors (startWait p (n.value s) s) (startWait p (n.value s) t) := by
      rw [SameButErrors] at h
      rw [h]
      rfl
    by_cases h0 : (n.value s).toNat + p.waitExtra = 0
    · rw [run_wait_zero h0, run_wait_zero (s := t) (hcount ▸ h0), hcount]
      exact ih hstart
    · rw [run_wait_holds h0, run_wait_holds (s := t) (hcount ▸ h0), hcount]
      exact congrArg (fun r : State => { r with mp := .waiting k }) hstart
  | wire b k => exact congrArg (fun r : State => { r with mp := .atWire b k }) h
  | ifPres f yes no ihyes ihno =>
    have hflag : presFlag f t = presFlag f s := by
      rw [SameButErrors] at h
      rw [h]
      cases f <;> rfl
    rw [run_ifPres, run_ifPres, hflag]
    split
    · exact ihyes h
    · exact ihno h

/-- Two outcomes stop alike, or go on in states that differ only in the error bits and the read data. -/
inductive SameOutcome : Host.Outcome State Fault Refusal → Host.Outcome State Fault Refusal → Prop
  | next {s t : State} (h : SameButErrors s t) : SameOutcome (.next s) (.next t)
  | fault (f : Fault) : SameOutcome (.fault f) (.fault f)
  | refused (r : Refusal) : SameOutcome (.refused r) (.refused r)

theorem sameButErrors_settle {s t : State} (h : SameButErrors s t) : SameButErrors (settle s) (settle t) := by
  have hrst : t.rst = s.rst := by rw [h]
  cases hr : s.rst with
  | false => rwa [settle_of_not_rst hr, settle_of_not_rst (hrst.trans hr)]
  | true =>
    rw [settle_of_rst hr, settle_of_rst (hrst.trans hr)]
    rw [SameButErrors] at h
    rw [h]
    rfl

theorem sameButErrors_resume (p : Params) {s t : State} (h : SameButErrors s t) :
    SameButErrors (resume p s) (resume p t) := by
  have hmp : t.mp = s.mp := by rw [h]
  have htb : t.tb = s.tb := by rw [h]
  have hwtgt : t.wtgt = s.wtgt := by rw [h]
  cases hm : s.mp with
  | waiting k =>
    rcases Nat.lt_or_ge s.tb.toNat s.wtgt with hlt | hge
    · rwa [resume_holds hm hlt, resume_holds (hmp.trans hm) (by rwa [htb, hwtgt])]
    · rw [resume_completes hm hge, resume_completes (hmp.trans hm) (by rwa [htb, hwtgt])]
      exact sameButErrors_run p k h
  | empty => rwa [resume_idle (by simp [hm]), resume_idle (by simp [hmp, hm])]
  | atWire b k => rwa [resume_idle (by simp [hm]), resume_idle (by simp [hmp, hm])]

theorem sameOutcome_sendFetchedByte {s t : State} (h : SameButErrors s t) :
    SameOutcome (sendFetchedByte s) (sendFetchedByte t) := by
  have hmp : t.mp = s.mp := by rw [h]
  simp only [sendFetchedByte, hmp]
  cases hm : s.mp with
  | empty => exact .next h
  | waiting k => exact .next h
  | atWire b k =>
    cases hd : decodeWire b with
    | error e => simp only [hd]; exact .fault _
    | ok i =>
      simp only [hd, exec_wire hd, sendWireByte, hmp]
      exact .next (sameButErrors_run _ _ h)

theorem sameOutcome_startPending {s t : State} (h : SameButErrors s t) : SameOutcome (startPending s) (startPending t) := by
  have hpcmd : t.pcmd = s.pcmd := by rw [h]
  have hclear : SameButErrors { s with pend := false } { t with pend := false } :=
    congrArg (fun r : State => { r with pend := false }) h
  simp only [startPending, hpcmd]
  cases hd : decode s.pcmd with
  | error e => exact .fault _
  | ok i =>
    simp only [exec_command hd]
    exact .next (sameButErrors_run _ _ hclear)

theorem sameOutcome_tickStep (l : Bool) {s t : State} (h : SameButErrors s t) : SameOutcome (tickStep l s) (tickStep l t) := by
  have hrst : t.rst = s.rst := by rw [h]
  have hpend : t.pend = s.pend := by rw [h]
  have hcount : SameButErrors (countTick l s) (countTick l t) := congrArg (countTick l) h
  rw [tickStep, tickStep, hrst]
  cases s.rst with
  | true => exact .next h
  | false =>
    cases hp : s.pend with
    | true => simpa [hp, hpend] using sameOutcome_startPending hcount
    | false => simpa [hp, hpend] using sameOutcome_sendFetchedByte (sameButErrors_resume Config.params hcount)

/-- A run's tick is the tick step of the settled state. -/
theorem tickOnce_eq_settle (lv : Nat → Bool) (s : State) : tickOnce lv s = tickStep (lv (s.gt + 1)) (settle s) :=
  step_of_inputs (s := { s with inputs := .tick (lv (s.gt + 1)) :: s.inputs }) rfl

theorem sameOutcome_tickOnce (lv : Nat → Bool) {s t : State} (h : SameButErrors s t) :
    SameOutcome (tickOnce lv s) (tickOnce lv t) := by
  have hgt : t.gt = s.gt := by rw [h]
  rw [tickOnce_eq_settle, tickOnce_eq_settle, hgt]
  exact sameOutcome_tickStep _ (sameButErrors_settle h)

theorem sameOutcome_ticks (lv : Nat → Bool) (n : Nat) {s t : State} (h : SameButErrors s t) :
    SameOutcome (ticks lv n s) (ticks lv n t) := by
  induction n generalizing s t with
  | zero => exact .next h
  | succ n ih =>
    have hstep := sameOutcome_tickOnce lv h
    rw [ticks, ticks]
    generalize tickOnce lv s = o, tickOnce lv t = o' at hstep
    cases hstep with
    | next h => exact ih h
    | fault f => exact .fault f
    | refused r => exact .refused r

/-- Settles O52: each thing a tick does goes the same way in both states (`sameOutcome_tickStep`), so whole runs do. -/
theorem ticksDoNotReadTheErrorBits : Obligations.TicksDoNotReadTheErrorBits := by
  unfold Obligations.TicksDoNotReadTheErrorBits
  intro s t lv n h
  have hrun := sameOutcome_ticks lv n h
  generalize ticks lv n s = o, ticks lv n t = o' at hrun
  cases hrun with
  | next h => exact h
  | fault f => rfl
  | refused r => rfl

end Sys2Proof.Machine

namespace Sys2Proof.Machine

/-! ### Proofs: the time base (R22, R100 to R106) -/

/-- Settles O16: the two halves of the duration law, `coast_wait_holds` and `coast_wait`. -/
theorem waitTakesItsCount : Obligations.WaitTakesItsCount := by
  unfold Obligations.WaitTakesItsCount
  rintro p lv n k s w rfl hlt
  have htarget : ((Count.ticks n).value s).toNat + p.waitExtra = n.toNat + p.waitExtra := rfl
  exact ⟨fun j hj => coast_wait_holds lv k htarget hlt hj, coast_wait lv k htarget hlt⟩

/-- A WAIT whose target TB cannot reach holds on, and BUSY with it (R104). -/
theorem coast_never_completes (p : Params) (lv : Nat → Bool) {k : Prog} (j : Nat) {s : State} (hm : s.mp = .waiting k)
    (hw : 2 ^ 16 ≤ s.wtgt) : (coast p lv j s).mp = .waiting k ∧ (coast p lv j s).busy = s.busy := by
  induction j generalizing s with
  | zero => exact ⟨hm, rfl⟩
  | succ j ih =>
    have hholds : (countTick (lv (s.gt + 1)) s).tb.toNat < s.wtgt := (BitVec.isLt _).trans_le hw
    rw [coast, resume_holds (s := countTick _ s) hm hholds]
    exact ih (s := countTick _ s) hm hw

/-- Settles O17: the target is 65536, which the 16 bits of TB never hold. -/
theorem longestWaitHangsWithExtraOne : Obligations.LongestWaitHangsWithExtraOne := by
  unfold Obligations.LongestWaitHangsWithExtraOne
  intro p lv k s hp j
  have htarget : ((Count.ticks 65535).value s).toNat + p.waitExtra = 2 ^ 16 := by rw [hp]; rfl
  rw [run_wait_holds (by omega)]
  exact coast_never_completes p lv j rfl htarget.ge

/-! #### Where TB is restarted (R22, R100) -/

/-- A micro-program without wire bytes that starts a WAIT restarts TB. -/
theorem tb_run_of_startsWait (p : Params) {k : Prog} {s : State} (hfree : k.wireFree = true) (h : k.startsWait p s = true) :
    (run p k s).tb = 0 := by
  rcases (run_tb p k s).2 h with h0 | ⟨b, j, hm⟩
  · exact h0
  · have hpos := wireFree_run p s hfree
    simp [hm, Position.wireFree] at hpos

/-- The start of a command restarts TB, unless it is INIT or DECODE, which start no WAIT (R113, R181). -/
theorem tb_start {w : Word} {i : Instr} (hd : decode w = .ok i) (s : State) :
    (start Config.params (commandProg i) s).tb = if i = .init ∨ i = .decode then s.tb else 0 := by
  obtain ⟨hskip, hconvert, hread⟩ := decode_ne_wire hd
  have hwaits {k : Prog} (hfree : k.wireFree = true) (h : k.startsWait Config.params { s with pend := false } = true) :
      (start Config.params k s).tb = 0 := tb_run_of_startsWait _ hfree h
  cases i with
  | skipRomByte => exact absurd rfl hskip
  | convertTByte => exact absurd rfl hconvert
  | readScratchpadByte => exact absurd rfl hread
  | init | decode => rfl
  | readTemperature => rfl
  | _ => exact hwaits rfl rfl

/-- Where nothing is pending, a WAIT in progress has to complete for another to start. -/
theorem tickStartsWait_waiting {l : Bool} {s : State} {k : Prog} (hp : s.pend = false) (hm : s.mp = .waiting k) :
    tickStartsWait l s = (decide (s.wtgt ≤ (countTick l s).tb.toNat) && k.startsWait Config.params (countTick l s)) := by
  rw [tickStartsWait, if_neg (by simp [hp]), hm]
  rfl

/-- TB after a WAIT in progress, none pending: it counts on, or is restarted by another WAIT or by a wire byte's. -/
theorem tb_waiting {l : Bool} {s s' : State} {k : Prog} (hp : s.pend = false) (hm : s.mp = .waiting k)
    (h : sendFetchedByte (resume Config.params (countTick l s)) = .next s') :
    s'.tb = if tickStartsWait l s then 0 else s.tb + 1 := by
  rw [tickStartsWait_waiting hp hm]
  rcases Nat.lt_or_ge (countTick l s).tb.toNat s.wtgt with hlt | hge
  · rw [resume_holds (s := countTick l s) hm hlt] at h
    rw [decide_eq_false (Nat.not_le.mpr hlt), Bool.false_and]
    rcases sendFetchedByte_cases h with ⟨-, rfl⟩ | ⟨b, k, i, hwire, -⟩
    · rfl
    · simp [hm] at hwire
  · rw [resume_completes (s := countTick l s) hm hge] at h
    rw [decide_eq_true hge, Bool.true_and]
    obtain ⟨hquiet, hwaits⟩ := run_tb Config.params k (countTick l s)
    cases hk : k.startsWait Config.params (countTick l s) with
    | false =>
      obtain ⟨htb, hno⟩ := hquiet hk
      rcases sendFetchedByte_cases h with ⟨-, rfl⟩ | ⟨b, j, i, hwire, -⟩
      · exact htb
      · exact absurd hwire (hno b j)
    | true =>
      rcases sendFetchedByte_cases h with ⟨hno, rfl⟩ | ⟨b, j, i, -, -, rfl⟩
      · rcases hwaits hk with h0 | ⟨b, j, hwire⟩
        · exact h0
        · exact absurd hwire (hno b j)
      · exact sendWireByte_tb b _

/-- TB after a tick with nothing pending. -/
theorem tb_running {l : Bool} {s s' : State} (hp : s.pend = false)
    (h : sendFetchedByte (resume Config.params (countTick l s)) = .next s') :
    s'.tb = if tickStartsWait l s then 0 else s.tb + 1 := by
  cases hm : s.mp with
  | waiting k => exact tb_waiting hp hm h
  | empty =>
    rw [resume_idle (by simp [hm])] at h
    rcases sendFetchedByte_cases h with ⟨-, rfl⟩ | ⟨b, k, i, hwire, -⟩
    · simp [tickStartsWait, hp, hm]
    · simp [hm] at hwire
  | atWire b k =>
    rw [resume_idle (by simp [hm])] at h
    rcases sendFetchedByte_cases h with ⟨hno, -⟩ | ⟨c, j, i, -, -, rfl⟩
    · exact absurd hm (hno b k)
    · simp [tickStartsWait, hp, hm, sendWireByte_tb]

/-- A tick leaves TB as `tickStartsWait` says (R44, R100). -/
theorem tb_tickStep {l : Bool} {s s' : State} (hr : s.rst = false) (h : tickStep l s = .next s') :
    s'.tb = if tickStartsWait l s then 0 else s.tb + 1 := by
  rcases tickStep_cases h with ⟨hrst, -⟩ | ⟨-, hp, i, hd, he⟩ | ⟨-, hp, he⟩
  · simp [hr] at hrst
  · rw [exec_command hd] at he
    cases he
    rw [tb_start hd, tickStartsWait, if_pos hp, hd]
    by_cases hi : i = .init ∨ i = .decode
    · rcases hi with rfl | rfl <;> rfl
    · obtain ⟨hinit, hdecode⟩ := not_or.mp hi
      simp [hinit, hdecode]
  · exact tb_running hp he

/-- A tick not under reset counts one in GT (R22, R47). -/
theorem gt_tickStep {l : Bool} {s s' : State} (hr : s.rst = false) (h : tickStep l s = .next s') : s'.gt = s.gt + 1 := by
  have hrun (k : Prog) (t : State) : (run Config.params k t).gt = t.gt := by
    obtain ⟨-, -, -, -, hgt, -⟩ := run_frame Config.params k t
    exact hgt
  obtain ⟨-, hresume, -⟩ := resume_frame Config.params (countTick l s)
  rcases tickStep_cases h with ⟨hrst, -⟩ | ⟨-, -, i, hd, he⟩ | ⟨-, -, he⟩
  · simp [hr] at hrst
  · rw [exec_command hd] at he
    cases he
    exact hrun _ { countTick l s with pend := false }
  · rcases sendFetchedByte_cases he with ⟨-, rfl⟩ | ⟨b, k, i, -, -, rfl⟩
    · exact hresume
    · exact (hrun _ _).trans hresume

/-- No host access writes TB or GT (R62, R63). -/
theorem tb_hostWrite {addr size : Nat} {v : Word} {s s' : State} (h : hostWrite Config.params addr size v s = .next s') :
    s'.tb = s.tb ∧ s'.gt = s.gt := by
  rcases hostWrite_effect h with rfl | ⟨-, -, rfl⟩ | ⟨-, -, -, rfl⟩
  · exact ⟨rfl, rfl⟩
  · exact ⟨rfl, rfl⟩
  · rcases acceptStep_cases v s with ⟨-, e⟩ | ⟨-, -, e⟩ | ⟨i, -, -, e⟩ <;> rw [e] <;> exact ⟨rfl, rfl⟩

/-- Settles O18: a tick counts and leaves TB as `tb_tickStep` says, and a host access leaves both counters. -/
theorem timeBaseCountsEveryTick : Obligations.TimeBaseCountsEveryTick := by
  unfold Obligations.TimeBaseCountsEveryTick
  intro s s' hr hs
  refine ⟨fun l rest hi => ?_, fun hnotick hnorst => ?_⟩
  · rw [step_cons hi hr] at hs
    exact ⟨gt_tickStep (s := { s with inputs := rest }) hr hs, tb_tickStep (s := { s with inputs := rest }) hr hs⟩
  · rcases step_cases hs with ⟨-, rfl⟩ | ⟨e, rest, hi, he⟩
    · exact ⟨rfl, rfl⟩
    rw [settle_of_not_rst (s := { s with inputs := rest }) hr] at he
    cases e with
    | tick l => exact absurd hi (hnotick l rest)
    | rst l => exact absurd hi (hnorst l rest)
    | hostRead addr size =>
      obtain ⟨off, -, rfl⟩ := hostRead_cases he
      exact ⟨rfl, rfl⟩
    | hostWrite addr size v => exact tb_hostWrite (s := { s with inputs := rest }) he

/-! #### DELAY (R101) -/

/-- Settles O20: DELAY is one WAIT, and the command completes where the WAIT does. -/
theorem delayTakesItsCount : Obligations.DelayTakesItsCount := by
  unfold Obligations.DelayTakesItsCount
  intro n s lv hr
  have hzero : n.toNat = 0 ↔ n = 0 := BitVec.toNat_inj (y := 0)
  have hend : complete (waited lv n.toNat n.toNat { s with pend := false }) =
      { idleAt (s.gt + n.toNat) n.toNat lv s with
        drive := s.drive
        owIn := if n = 0 then s.owIn else lv (s.gt + n.toNat) } := by
    simp only [complete, waited, idleAt, hzero]
  rw [← hend]
  exact completes_of_coast (k := delayProg n) rfl hr rfl
    (coast_wait (p := Config.params) (n := .ticks n) (s := { s with pend := false }) lv .done rfl n.isLt)

/-! ### Proofs: a tick step runs the decoded instruction (R44) -/

/-- A tick that is not under reset is counted, and starts the pending command or goes on with the micro-program. -/
theorem step_tick {s : State} {l : Bool} {rest : List Event} (hi : s.inputs = .tick l :: rest) (hr : s.rst = false) :
    step s = if s.pend then startPending (countTick l { s with inputs := rest })
      else sendFetchedByte (resume Config.params (countTick l { s with inputs := rest })) := by
  rw [step_cons hi hr, handle, tickStep, if_neg (by simp [hr])]
  rfl

/-- At no wire byte, no byte is sent. -/
theorem sendFetchedByte_of_not_atWire {s : State} (h : ∀ b k, s.mp ≠ .atWire b k) : sendFetchedByte s = .next s := by
  cases hm : s.mp with
  | atWire b k => exact absurd hm (h b k)
  | empty => rw [sendFetchedByte, hm]
  | waiting k => rw [sendFetchedByte, hm]

/-- At a wire byte of R87 its instruction is run. -/
theorem sendFetchedByte_of_atWire {s : State} {b : Byte} {k : Prog} {i : Instr} (hm : s.mp = .atWire b k)
    (hd : decodeWire b = .ok i) : sendFetchedByte s = exec i s := by
  simp [sendFetchedByte, hm, hd]

theorem startPending_of_decode {s : State} {i : Instr} (hd : decode s.pcmd = .ok i) : startPending s = exec i s := by
  rw [startPending, hd]

/-- Settles O19: with nothing pending and no micro-program the tick is only counted. -/
theorem idleTickOnlyCounts : Obligations.IdleTickOnlyCounts := by
  unfold Obligations.IdleTickOnlyCounts
  intro s l rest hi hr hp hm
  rw [step_tick hi hr, if_neg (by simp [hp]), resume_idle (by simp [hm]), sendFetchedByte_of_not_atWire (by simp [hm])]
  rfl

/-- Settles O21: of the two branches of `step_tick`, the pending command's. -/
theorem stepRunsThePendingCommand : Obligations.StepRunsThePendingCommand := by
  unfold Obligations.StepRunsThePendingCommand
  intro s l rest i hi hr hp hd
  rw [step_tick hi hr, if_pos hp, startPending_of_decode (s := countTick l { s with inputs := rest }) hd]
  rfl

/-- Settles O22: of the two branches of `step_tick`, the one that sends a wire byte where the sequencer has come to one. -/
theorem stepSendsTheFetchedByte : Obligations.StepSendsTheFetchedByte := by
  unfold Obligations.StepSendsTheFetchedByte
  rintro s r l rest b k i hi hr hp rfl
  rw [step_tick hi hr, if_neg (by simp [hp])]
  exact ⟨fun hm hd => sendFetchedByte_of_atWire hm hd, fun hno => sendFetchedByte_of_not_atWire hno⟩

/-- Settles O23: the placed state has a tick to come, and its word pending or its byte where the sequencer stands. -/
theorem placedWordIsRun : Obligations.PlacedWordIsRun := by
  unfold Obligations.PlacedWordIsRun
  refine ⟨fun w i hd => ?_, fun b i hd => ?_⟩
  · have hplace : State.reset.withFetchWord 32 w.toNat = placeCommand w State.reset := by
      rw [State.withFetchWord, if_neg (by decide), BitVec.ofNat_toNat, BitVec.setWidth_eq]
    rw [hplace, placeCommand, hd, step_tick rfl rfl, if_pos rfl, startPending_of_decode (by exact hd)]
    rfl
  · have hplace : State.reset.withFetchWord 8 b.toNat = placeWireByte b State.reset := by
      rw [State.withFetchWord, if_pos (by decide), BitVec.ofNat_toNat, BitVec.setWidth_eq]
    rw [hplace, placeWireByte, hd, step_tick rfl rfl, if_neg Bool.false_ne_true, resume_idle (by simp),
      sendFetchedByte_of_atWire (b := b) (k := .done) rfl hd]
    rfl

end Sys2Proof.Machine

namespace Sys2Proof.Machine

/-! ### Proofs: the register window, the decoder's laws and reset (R26 to R36, R185, R187, R230, R231) -/

/-- Settles O13: each value is what `readReg_regAt_toNat` says the 32-bit read returns, so it has no more bits. -/
theorem windowValuesAreExact : Obligations.WindowValuesAreExact := by
  unfold Obligations.WindowValuesAreExact
  intro s a
  have hread := readReg_regAt_toNat s a
  exact ⟨hread ▸ BitVec.isLt _, fun _ _ => hread⟩

/-- TEMP_FRAC as a number: the tenths digit of the low nibble, truncated (R185). -/
theorem tempFracOf_toNat (lsb : Byte) : (tempFracOf Config.params lsb).toNat = 10 * (lsb.toNat % 16) / 16 := by
  have hdigit : lsb.toNat % 16 * 625 / 1000 = 10 * (lsb.toNat % 16) / 16 := by omega
  rw [tempFracOf_eq_ofNat, BitVec.toNat_ofNat, hdigit, Nat.mod_eq_of_lt (by omega)]

/-- TEMP_INT reads only bits 2:0 of the MSB and its sign (R183). -/
theorem tempIntOf_congr {lsb msb msb' : Byte} (hlow : msb'.toNat % 8 = msb.toNat % 8)
    (hsign : msb'.toNat / 128 = msb.toNat / 128) : tempIntOf lsb msb' = tempIntOf lsb msb := by
  have hle : 128 ≤ msb'.toNat ↔ 128 ≤ msb.toNat := by omega
  have hfield : (integerField lsb msb').toNat = (integerField lsb msb).toNat := by
    simp only [integerField_toNat, magnitudeMsb_toNat, hle]
    split_ifs <;> omega
  simp only [tempIntOf_eq_ofNat, hfield, hle]

/-- A reading below 0x0800 has its integer part in TEMP_INT (R183). -/
theorem tempIntOf_toNat_of_lt {lsb msb : Byte} (h : msb.toNat < 8) :
    (tempIntOf lsb msb).toNat = (256 * msb.toNat + lsb.toNat) / 16 := by
  have hsign : ¬ 128 ≤ msb.toNat := by omega
  rw [tempIntOf_eq_ofNat, if_neg hsign, integerField_toNat, magnitudeMsb_toNat, if_neg hsign, BitVec.toNat_ofNat]
  omega

/-- Settles O41: the decoded fields are numbers of SP[0] and SP[1] (`tempFracOf_toNat`, `tempIntOf_toNat_of_lt`), which read no more of
SP[1] than `tempIntOf_congr` says. -/
theorem decoderArithmeticLaws : Obligations.DecoderArithmeticLaws := by
  unfold Obligations.DecoderArithmeticLaws
  intro s t ht
  rw [exec_decode] at ht
  cases ht
  simp only [complete_tempFrac, complete_tempInt, complete_tempRaw, complete_minus, decodeSp_tempFrac, decodeSp_tempInt,
    decodeSp_tempRaw, decodeSp_minus]
  have hfrac := tempFracOf_toNat s.sp[0]
  have hraw : (tempRawOf s.sp[0] s.sp[1]).toNat = 256 * s.sp[1].toNat + s.sp[0].toNat := append_toNat s.sp[1] s.sp[0]
  have hnibble : (256 * s.sp[1].toNat + s.sp[0].toNat) % 16 = s.sp[0].toNat % 16 := by omega
  refine ⟨hfrac, by omega, fun hmsb => ⟨?_, ?_, ?_⟩, fun s' t' ht' h0 hlow hsign => ?_⟩
  · rw [tempIntOf_toNat_of_lt hmsb, hraw]
  · rw [hfrac, hraw, hnibble, Nat.mul_comm]
  · rw [minusOf_eq_decide]
    exact decide_eq_false (by omega)
  · rw [exec_decode] at ht'
    cases ht'
    have hminus : minusOf s'.sp[1] = minusOf s.sp[1] := by
      rw [minusOf_eq_decide, minusOf_eq_decide, decide_eq_decide]
      omega
    refine ⟨?_, congrArg (tempFracOf Config.params) h0, hminus⟩
    exact (congrArg (tempIntOf · s'.sp[1]) h0).trans (tempIntOf_congr hlow hsign)

/-- Settles O57: a step under reset sees the reset state, and there a defined write does nothing. -/
theorem writeUnderResetChangesNothing : Obligations.WriteUnderResetChangesNothing := by
  unfold Obligations.WriteUnderResetChangesNothing
  intro s rest a v hr ha h4 hi
  rw [step_heldReset hi hr, handle, hostWrite, show Config.base + a = Config.params.base + a from rfl, accessOffset_base_add ha h4]
  rfl

/-- Settles O58: the reset state, once `rst` is 0, is idle and accepts a legal word with its error bits at 0. -/
theorem releasedResetAcceptsACommand : Obligations.ReleasedResetAcceptsACommand := by
  unfold Obligations.ReleasedResetAcceptsACommand
  intro s w i rest hr hd hi
  refine ⟨driveRst false (heldReset s (.hostWrite Config.base 4 w :: rest)), accept w i (driveRst false (heldReset s rest)),
    step_heldReset hi hr, rfl, rfl, ?_, rfl, rfl, rfl, rfl, rfl⟩
  rw [step_cmdWrite rfl rfl]
  exact congrArg Host.Outcome.next (acceptStep_legal rfl hd)

/-! ### Proofs: whole runs of the commands (R110 to R116, R140, R141, R150) -/

/-- Settles O24: INIT is two micro-ops and the completion, all on its start tick. -/
theorem initReleasesAndClearsErrors : Obligations.InitReleasesAndClearsErrors := by
  unfold Obligations.InitReleasesAndClearsErrors
  exact fun s => rfl

/-- Settles O25: RESET_PULSE is ResetPresence with the result in PRES. -/
theorem resetPulseRunsWhole : Obligations.ResetPulseRunsWhole := by
  unfold Obligations.ResetPulseRunsWhole
  exact fun s lv hr => completes_of_coast (k := resetPulseProg Config.params) rfl hr rfl (coast_resetPresence lv _ _)

/-- Settles O27: WRITE_BIT is one write slot of its operand. -/
theorem writeBitRunsWhole : Obligations.WriteBitRunsWhole := by
  unfold Obligations.WriteBitRunsWhole
  intro b s lv hr
  refine completes_of_coast (k := writeBitProg Config.params b) rfl hr rfl ((coast_writeBit lv (.const b) .done _).trans ?_)
  cases b <;> rfl

/-- Settles O29: READ_BIT is one read slot with its sample in DATA. -/
theorem readBitRunsWhole : Obligations.ReadBitRunsWhole := by
  unfold Obligations.ReadBitRunsWhole
  intro s lv hr
  have hdata (b : Bool) : (BitVec.ofBool b).setWidth 8 = if b then 1 else 0 := by cases b <;> rfl
  rw [← hdata]
  exact completes_of_coast (k := readBitProg Config.params) rfl hr rfl (coast_readBit lv _ _)

/-- Settles O30: WRITE_BYTE is the WriteByte of its operand. -/
theorem writeByteRunsWhole : Obligations.WriteByteRunsWhole := by
  unfold Obligations.WriteByteRunsWhole
  intro v s lv hr
  refine completes_of_coast (k := writeByteProg Config.params v) rfl hr rfl ((coast_writeByte lv v .done _).trans ?_)
  cases hv : v.getLsbD 7 <;> simp only [run_done, writeByteEnd, complete, idleAt, hv] <;> rfl

/-- Settles O31: READ_BYTE is a ReadByte with its result in DATA. -/
theorem readByteRunsWhole : Obligations.ReadByteRunsWhole := by
  unfold Obligations.ReadByteRunsWhole
  exact fun s lv hr => completes_readByte lv hr

/-- Settles O34: the run is put together of its phases in `completes_readTemperature`. -/
theorem readTemperatureRunsWhole : Obligations.ReadTemperatureRunsWhole := by
  unfold Obligations.ReadTemperatureRunsWhole
  exact fun s lv => completes_readTemperature lv

/-! #### The waveform of a write slot (R115) -/

/-- The bit a slot sends depends on SHIFT alone, so it stays the same through the slot (R114). -/
theorem value_of_shift (src : BitSource) {s t : State} (h : t.shift = s.shift) : src.value t = src.value s := by
  cases src with
  | const b => rfl
  | shift0 => exact congrArg (BitVec.getLsbD · 0) h

/-- A pulse low through one WAIT and released through another: DRIVE is 1 in the first and 0 in the second. -/
theorem drive_pulse (lv : Nat → Bool) {n₁ n₂ : Count} (k : Prog) {s : State} {w₁ w₂ j : Nat}
    (h₁ : (n₁.value (pullLow s)).toNat + Config.params.waitExtra = w₁) (hlt₁ : w₁ < 2 ^ 16)
    (h₂ : (n₂.value (release (waited lv w₁ w₁ (pullLow s)))).toNat + Config.params.waitExtra = w₂) (hlt₂ : w₂ < 2 ^ 16)
    (hj : j < w₁ + w₂) :
    (coast Config.params lv j (run Config.params (.op .low (.wait n₁ (.op .rel (.wait n₂ k)))) s)).drive = decide (j < w₁) := by
  rw [run_op, applyOp]
  rcases Nat.lt_or_ge j w₁ with hlt | hge
  · rw [coast_wait_holds lv _ h₁ hlt₁ hlt, decide_eq_true hlt]
    rfl
  · obtain ⟨m, rfl⟩ := Nat.exists_eq_add_of_le hge
    rw [coast_wait_add lv _ _ h₁ hlt₁, run_op, applyOp, coast_wait_holds lv _ h₂ hlt₂ (by omega),
      decide_eq_false (Nat.not_lt.mpr hge)]
    rfl

/-- DRIVE after `j` ticks of a write slot (R115). -/
theorem drive_writeBit (lv : Nat → Bool) (src : BitSource) (k : Prog) (s : State) {j : Nat} (hj : j < 75) :
    (coast Config.params lv j (run Config.params (writeBit Config.params src k) s)).drive =
      decide (j < if src.value s then 10 else 65) := by
  refine drive_pulse lv (w₂ := if src.value s then 65 else 10) k ?low ?_ ?high ?_ ?_
  case low => exact byBit_target _ _ (value_of_shift src rfl)
  case high => exact byBit_target _ _ (value_of_shift src rfl)
  all_goals cases src.value s <;> simp [hj]

/-- Settles O28: DRIVE is `drive_writeBit`, and the slot ends as `coast_writeBit` says. -/
theorem writeSlotWaveform : Obligations.WriteSlotWaveform := by
  unfold Obligations.WriteSlotWaveform
  rintro src k s lv j L rfl
  refine ⟨fun hj => drive_writeBit lv src k s hj, ?_⟩
  rw [coast_writeBit]
  cases src.value s <;> rfl

end Sys2Proof.Machine

namespace Sys2Proof.Machine

/-! ### Proofs: the registers at every tick of a procedure (R73, R250) -/

/-- The registers a host can read that no line micro-op and no WAIT writes: all but DRIVE, TB and the error bits. -/
structure Registers where
  busy : Bool
  pres : Bool
  pres1 : Bool
  pres2 : Bool
  pres3 : Bool
  minus : Bool
  seq : Seq
  data : Byte
  tempInt : Byte
  tempFrac : BitVec 10
  tempRaw : Half
  sp : Vector Byte 9

/-- A state's registers. -/
def State.registers (s : State) : Registers where
  busy := s.busy
  pres := s.pres
  pres1 := s.pres1
  pres2 := s.pres2
  pres3 := s.pres3
  minus := s.minus
  seq := s.seq
  data := s.data
  tempInt := s.tempInt
  tempFrac := s.tempFrac
  tempRaw := s.tempRaw
  sp := s.sp

/-- At each of the first `m` ticks of the micro-program `k` started in `s`, a WAIT is in progress and the registers are what `f`
gives for the GT of that tick. -/
def Shows (f : Nat → Registers) (lv : Nat → Bool) (m : Nat) (k : Prog) (s : State) : Prop :=
  ∀ j, j < m →
    (∃ k', (coast Config.params lv j (run Config.params k s)).mp = .waiting k') ∧
    (coast Config.params lv j (run Config.params k s)).registers = f (s.gt + j)

section
variable {f : Nat → Registers} {lv : Nat → Bool} {m : Nat} {k : Prog} {s : State}

theorem Shows.zero : Shows f lv 0 k s := nofun

theorem Shows.congr {g : Nat → Registers} (h : Shows g lv m k s) (hf : ∀ j, j < m → f (s.gt + j) = g (s.gt + j)) :
    Shows f lv m k s :=
  fun j hj => ⟨(h j hj).1, (h j hj).2.trans (hf j hj).symm⟩

theorem Shows.op {o : MicroOp} (h : Shows f lv m k (applyOp Config.params o s)) : Shows f lv m (.op o k) s := by
  obtain ⟨-, -, -, -, -, -, -, -, hgt, -⟩ := applyOp_frame Config.params o s
  rwa [Shows, hgt] at h

theorem Shows.yes {fl : PresFlag} {no : Prog} (h : Shows f lv m k s) (hfl : presFlag fl s = true) :
    Shows f lv m (.ifPres fl k no) s := by
  rwa [Shows, run_ifPres, if_pos hfl]

/-- What a procedure shows, then what follows it shows. -/
theorem Shows.append {m' : Nat} {k' : Prog} {t : State} (h : Shows f lv m k s)
    (hend : coast Config.params lv m (run Config.params k s) = run Config.params k' t) (hgt : t.gt = s.gt + m)
    (h' : Shows f lv m' k' t) : Shows f lv (m + m') k s := by
  intro j hj
  rcases Nat.lt_or_ge j m with hlt | hge
  · exact h j hlt
  · obtain ⟨i, rfl⟩ := Nat.exists_eq_add_of_le hge
    rw [coast_add, hend, ← Nat.add_assoc, ← hgt]
    exact h' i (by omega)

/-- A WAIT shows the registers it started with. -/
theorem Shows.wait {n : Count} {w : Nat} (hw : (n.value s).toNat + Config.params.waitExtra = w) (hlt : w < 2 ^ 16)
    (hf : ∀ j, j < w → f (s.gt + j) = s.registers) (h : Shows f lv m k (waited lv w w s)) :
    Shows f lv (w + m) (.wait n k) s := by
  refine Shows.append (fun j hj => ?_) (coast_wait lv k hw hlt) rfl h
  rw [coast_wait_holds lv k hw hlt hj]
  exact ⟨⟨k, rfl⟩, (hf j hj).symm⟩

end

/-! #### The procedures show the registers they start with -/

section
variable (lv : Nat → Bool) (k : Prog) (s : State)

theorem shows_resetPresence : Shows (fun _ => s.registers) lv 960 (resetPresence Config.params k) s :=
  .op (.wait (w := 480) rfl (by decide) (fun _ _ => rfl)
    (.op (.wait (w := 70) rfl (by decide) (fun _ _ => rfl)
      (.op (.wait (w := 410) (m := 0) rfl (by decide) (fun _ _ => rfl) .zero)))))

theorem shows_writeBit (src : BitSource) : Shows (fun _ => s.registers) lv 75 (writeBit Config.params src k) s := by
  have hsum : 75 = (if src.value s then 10 else 65) + ((if src.value s then 65 else 10) + 0) := by cases src.value s <;> rfl
  have hlt : (if src.value s then 10 else 65) < 2 ^ 16 ∧ (if src.value s then 65 else 10) < 2 ^ 16 := by
    cases src.value s <;> decide
  obtain ⟨hlow, hhigh⟩ := hlt
  rw [hsum]
  exact .op (.wait (byBit_target _ _ (value_of_shift src rfl)) hlow (fun _ _ => rfl)
    (.op (.wait (byBit_target _ _ (value_of_shift src rfl)) hhigh (fun _ _ => rfl) .zero)))

theorem shows_readBit : Shows (fun _ => s.registers) lv 65 (readBit Config.params k) s :=
  .op (.wait (w := 5) rfl (by decide) (fun _ _ => rfl)
    (.op (.wait (w := 5) rfl (by decide) (fun _ _ => rfl)
      (.op (.wait (w := 55) (m := 0) rfl (by decide) (fun _ _ => rfl) .zero)))))

theorem shows_slotsOut (n : Nat) : Shows (fun _ => s.registers) lv (75 * n) (slotsOut Config.params n k) s := by
  induction n generalizing s with
  | zero => exact .zero
  | succ n ih =>
    rw [Nat.mul_succ, Nat.add_comm]
    exact .append (shows_writeBit lv _ s .shift0) (coast_writeBit lv _ _ s) rfl (.op (ih _))

theorem shows_slotsIn (n : Nat) : Shows (fun _ => s.registers) lv (65 * n) (slotsIn Config.params n k) s := by
  induction n generalizing s with
  | zero => exact .zero
  | succ n ih =>
    rw [Nat.mul_succ, Nat.add_comm]
    exact .append (shows_readBit lv _ s) (coast_readBit lv _ s) rfl (.op (ih _))

theorem shows_writeByte (v : Byte) : Shows (fun _ => s.registers) lv 600 (writeByte Config.params v k) s :=
  .op (shows_slotsOut lv k (loadShift v s) 8)

theorem shows_readByte : Shows (fun _ => s.registers) lv 520 (readByte Config.params k) s :=
  .op (shows_slotsIn lv k (loadShift 0x00 s) 8)

theorem shows_convertWaits (n : Nat) : Shows (fun _ => s.registers) lv (7500 * n) (convertWaits Config.params n k) s := by
  induction n generalizing s with
  | zero => exact .zero
  | succ n ih =>
    rw [Nat.mul_succ, Nat.add_comm]
    exact .wait (w := 7500) rfl (by decide) (fun _ _ => rfl) (.op (ih _))

end

/-! #### How long the commands without wire bytes are busy (R250) -/

/-- A command that completes after `n` ticks, and keeps the registers it started with before, is busy for `n` ticks. -/
theorem takesTicks_of_shows {i : Instr} {k : Prog} {s u : State} {lv : Nat → Bool} {n : Nat}
    (hi : exec i s = .next (start Config.params k s)) (hr : s.rst = false) (hk : k.wireFree = true) (hb : s.busy = true)
    (h : Shows (fun _ => s.registers) lv n k { s with pend := false }) (hu : Completes i s lv n u) (hidle : u.busy = false) :
    TakesTicks i s lv n := by
  have hcoast (j : Nat) : ticks lv j (start Config.params k s) = .next (coast Config.params lv j (start Config.params k s)) :=
    (WireFree.run Config.params (s := { s with pend := false }) hr rfl hk).ticks_eq_coast lv j
  refine ⟨_, hi, fun j hj => ⟨_, hcoast j, ?_⟩, u, ?_, hidle⟩
  · exact (congrArg Registers.busy (h j hj).2).trans hb
  · obtain ⟨t, ht, hticks⟩ := hu
    cases hi.symm.trans ht
    exact hticks

/-- Settles O38: each of the six keeps BUSY while it shows the registers it started with, and ends idle; INIT and DECODE complete at
once. -/
theorem commandsTakeTheirTicks : Obligations.CommandsTakeTheirTicks := by
  unfold Obligations.CommandsTakeTheirTicks
  intro s lv hr
  refine ⟨⟨_, rfl, nofun, _, rfl, rfl⟩, ⟨_, rfl, nofun, _, rfl, rfl⟩, fun hb => ⟨?_, fun b => ?_, ?_, fun v => ?_, ?_, fun n => ?_⟩⟩
  · exact takesTicks_of_shows rfl hr rfl hb (shows_resetPresence lv _ { s with pend := false }) (resetPulseRunsWhole s lv hr) rfl
  · exact takesTicks_of_shows rfl hr rfl hb (shows_writeBit lv _ { s with pend := false } _) (writeBitRunsWhole b s lv hr) rfl
  · exact takesTicks_of_shows rfl hr rfl hb (shows_readBit lv _ { s with pend := false }) (readBitRunsWhole s lv hr) rfl
  · exact takesTicks_of_shows rfl hr rfl hb (shows_writeByte lv _ { s with pend := false } v) (writeByteRunsWhole v s lv hr) rfl
  · exact takesTicks_of_shows rfl hr rfl hb (shows_readByte lv _ { s with pend := false }) (readByteRunsWhole s lv hr) rfl
  · exact takesTicks_of_shows rfl hr rfl hb (.wait (n := .ticks n) (m := 0) rfl n.isLt (fun _ _ => rfl) .zero)
      (delayTakesItsCount n s lv hr) rfl

/-! #### A wire byte, and what is left after it (R87, R140) -/

/-- Where WAITs hold at every tick but the last, a run of ticks is a coast whose last tick may come to a wire byte. -/
theorem ticks_of_waiting {lv : Nat → Bool} {n : Nat} {s : State} (hr : s.rst = false) (hp : s.pend = false)
    (h : ∀ j, j < n + 1 → ∃ k, (coast Config.params lv j s).mp = .waiting k) :
    ticks lv (n + 1) s = sendFetchedByte (coast Config.params lv (n + 1) s) := by
  induction n generalizing s with
  | zero =>
    have hid (o : Host.Outcome State Fault Refusal) : andThen o .next = o := by cases o <;> rfl
    exact (hid _).trans (tickOnce_running hr hp)
  | succ n ih =>
    obtain ⟨hrst, -, -, hpend⟩ := resume_frame Config.params (countTick (lv (s.gt + 1)) s)
    obtain ⟨k, hm⟩ := h 1 (by omega)
    have hnext : tickOnce lv s = .next (coast Config.params lv 1 s) :=
      (tickOnce_running hr hp).trans (sendFetchedByte_of_not_atWire fun _ _ hwire => nomatch hm.symm.trans hwire)
    rw [ticks_succ_next hnext, Nat.add_comm (n + 1) 1, coast_add]
    refine ih (hrst.trans hr) (Bool.eq_false_iff.mpr fun h => Bool.false_ne_true (hp.symm.trans (hpend h))) fun j hj => ?_
    rw [← coast_add, Nat.add_comm]
    exact h (j + 1) (by omega)

/-- A byte's first slot starts with LOW, and nothing else happens in that tick (R114, R140). -/
theorem trace_sendWireByte (b : Byte) (s : State) :
    (sendWireByte Config.params b s).trace = s.trace ++ [.low s.gt] := by
  have hslot : ((Count.byBit .shift0 Config.params.tW1l Config.params.tW0l).value (pullLow (loadShift b s))).toNat +
      Config.params.waitExtra = if b.getLsbD 0 then 10 else 65 := byBit_target _ _ rfl
  rw [sendWireByte, writeByte, run_op, applyOp, slotsOut, writeBit, run_op, applyOp, run_wait_holds]
  · rfl
  · rw [hslot]
    split <;> decide

/-- Settles O33: the byte's eight slots wait at every tick before the last, and there what is left runs. -/
theorem wireByteIsSentThenTheRestRuns : Obligations.WireByteIsSentThenTheRestRuns := by
  unfold Obligations.WireByteIsSentThenTheRestRuns
  intro i b s lv hi hr hp
  have hd : decodeWire b = .ok i := by
    rcases hi with ⟨rfl, rfl⟩ | ⟨rfl, rfl⟩ | ⟨rfl, rfl⟩ <;> rfl
  obtain ⟨hrst, -, -, -, -, -, hpend, -⟩ := run_frame Config.params (writeByte Config.params b s.mp.rest) s
  refine ⟨_, exec_wire hd s, trace_sendWireByte b s, ?_⟩
  have hticks := ticks_of_waiting (n := 599) (hrst.trans hr)
    (Bool.eq_false_iff.mpr fun h => Bool.false_ne_true (hp.symm.trans (hpend h)))
    fun j hj => (shows_writeByte lv s.mp.rest s b j hj).1
  exact hticks.trans (congrArg sendFetchedByte (coast_writeByte lv b s.mp.rest s))

end Sys2Proof.Machine

namespace Sys2Proof.Machine

/-! ### Proofs: READ_TEMPERATURE, tick by tick (R28, R73, R150 to R162) -/

/-! #### What the schedule gives at each time -/

section
variable {lv : Nat → Bool} {t r j : Nat}

theorem presAfter_of_lt (h : t + j < r + 960) : presAfter lv t r j = false := by
  rw [presAfter, decide_eq_false (Nat.not_le.mpr h), Bool.false_and]

theorem presAfter_of_le (h : r + 960 ≤ t + j) : presAfter lv t r j = presenceAt lv r := by
  rw [presAfter, decide_eq_true h, Bool.true_and]

theorem decodedAfter_of_lt (h : t + j < reset3Start lv t) : decodedAfter lv t j = false := by
  rw [decodedAfter, Bool.and_eq_false_imp]
  intro h2
  rw [reset3Start, if_pos h2] at h
  exact decide_eq_false (by rw [scratchByteStart]; omega)

theorem decodedAfter_of_le (h : reset3Start lv t ≤ t + j) : decodedAfter lv t j = secondPresence lv t := by
  rw [decodedAfter]
  cases h2 : secondPresence lv t with
  | false => rfl
  | true =>
    rw [reset3Start, if_pos h2] at h
    rw [decide_eq_true (by rw [scratchByteStart]; omega), Bool.and_self]

/-- Before the first byte completes, and where none is read, the scratchpad is the old one. -/
theorem spAfter_old (old : Vector Byte 9) (h : secondPresence lv t = true → t + j < scratchByteStart lv t 1) :
    spAfter lv t j old = old := by
  ext i hi
  rw [spAfter, Vector.getElem_ofFn, if_neg]
  · rfl
  · rintro ⟨h2, hle⟩
    have := h h2
    simp only [scratchByteStart] at this hle
    omega

/-- While byte `n` is being read those before it are stored. -/
theorem spAfter_reading (old : Vector Byte 9) {n : Nat} (h2 : secondPresence lv t = true)
    (hge : scratchByteStart lv t n ≤ t + j) (hlt : t + j < scratchByteStart lv t (n + 1) ∨ 9 ≤ n) :
    spAfter lv t j old = bytesStored lv (scratchByteStart lv t 0) n old := by
  ext1 i hi
  rw [spAfter, bytesStored, Vector.getElem_ofFn, Vector.getElem_ofFn]
  have hiff : (secondPresence lv t = true ∧ scratchByteStart lv t i + 520 ≤ t + j) ↔ i < n := by
    simp only [h2, true_and, scratchByteStart] at hge hlt ⊢
    omega
  simp only [hiff]
  rfl

/-! SEQ's intervals, in the order of the schedule (R28, R150). -/

theorem seqAfter_reset1 (hlt : t + j < t + 960) : seqAfter lv t j = .reset1 := if_pos hlt

theorem seqAfter_skipRom1 (h1 : presenceAt lv t = true) (hge : t + 960 ≤ t + j) (hlt : t + j < t + 1560) :
    seqAfter lv t j = .skipRom1 := by
  rw [seqAfter, if_neg (by omega), if_pos ⟨h1, hlt⟩]

theorem seqAfter_convert (h1 : presenceAt lv t = true) (hge : t + 1560 ≤ t + j) (hlt : t + j < t + 2160) :
    seqAfter lv t j = .convert := by
  rw [seqAfter, if_neg (by omega), if_neg fun ⟨_, h⟩ => by omega, if_pos ⟨h1, hlt⟩]

/-- From the conversion wait on, the first three intervals are past. -/
theorem seqAfter_of_conversion (hge : t + 960 + (if presenceAt lv t then 1200 else 0) ≤ t + j) :
    seqAfter lv t j =
      if t + j < reset2Start lv t then .convWait
      else if t + j < reset2Start lv t + 960 then .reset2
      else if secondPresence lv t ∧ t + j < reset2Start lv t + 1560 then .skipRom2
      else if secondPresence lv t ∧ t + j < reset2Start lv t + 2160 then .readSp
      else if t + j < reset3Start lv t then .readBytes
      else if t + j < reset3Start lv t + 960 then .reset3
      else .idle := by
  have hpast (h1 : presenceAt lv t = true) : t + 2160 ≤ t + j := by rw [if_pos h1] at hge; omega
  rw [seqAfter, if_neg (by omega), if_neg fun ⟨h1, h⟩ => by have := hpast h1; omega,
    if_neg fun ⟨h1, h⟩ => by have := hpast h1; omega]

theorem seqAfter_convWait (hge : t + 960 + (if presenceAt lv t then 1200 else 0) ≤ t + j) (hlt : t + j < reset2Start lv t) :
    seqAfter lv t j = .convWait := by
  rw [seqAfter_of_conversion hge, if_pos hlt]

/-- Reset pulse 2 starts after phase 1. -/
theorem phase1_le_reset2Start (lv : Nat → Bool) (t : Nat) :
    t + 960 + (if presenceAt lv t then 1200 else 0) ≤ reset2Start lv t := Nat.le_add_right ..

theorem seqAfter_reset2 (hge : reset2Start lv t ≤ t + j) (hlt : t + j < reset2Start lv t + 960) : seqAfter lv t j = .reset2 := by
  rw [seqAfter_of_conversion ((phase1_le_reset2Start lv t).trans hge), if_neg (by omega), if_pos hlt]

theorem seqAfter_skipRom2 (h2 : secondPresence lv t = true) (hge : reset2Start lv t + 960 ≤ t + j)
    (hlt : t + j < reset2Start lv t + 1560) : seqAfter lv t j = .skipRom2 := by
  rw [seqAfter_of_conversion ((phase1_le_reset2Start lv t).trans (by omega)), if_neg (by omega), if_neg (by omega),
    if_pos ⟨h2, hlt⟩]

theorem seqAfter_readSp (h2 : secondPresence lv t = true) (hge : reset2Start lv t + 1560 ≤ t + j)
    (hlt : t + j < reset2Start lv t + 2160) : seqAfter lv t j = .readSp := by
  rw [seqAfter_of_conversion ((phase1_le_reset2Start lv t).trans (by omega)), if_neg (by omega), if_neg (by omega),
    if_neg fun ⟨_, h⟩ => by omega, if_pos ⟨h2, hlt⟩]

theorem seqAfter_readBytes (hge : reset2Start lv t + 2160 ≤ t + j) (hlt : t + j < reset3Start lv t) :
    seqAfter lv t j = .readBytes := by
  rw [seqAfter_of_conversion ((phase1_le_reset2Start lv t).trans (by omega)), if_neg (by omega), if_neg (by omega),
    if_neg fun ⟨_, h⟩ => by omega, if_neg fun ⟨_, h⟩ => by omega, if_pos hlt]

/-- From reset pulse 3 on. -/
theorem seqAfter_of_reset3 (hge : reset3Start lv t ≤ t + j) :
    seqAfter lv t j = if t + j < reset3Start lv t + 960 then .reset3 else .idle := by
  have hphase2 : reset2Start lv t + 960 ≤ reset3Start lv t := Nat.le_add_right ..
  have hpast (h2 : secondPresence lv t = true) : reset2Start lv t + 2160 ≤ reset3Start lv t := by
    rw [reset3Start, if_pos h2]; omega
  rw [seqAfter_of_conversion ((phase1_le_reset2Start lv t).trans (by omega)), if_neg (by omega), if_neg (by omega),
    if_neg fun ⟨h2, h⟩ => by have := hpast h2; omega, if_neg fun ⟨h2, h⟩ => by have := hpast h2; omega, if_neg (by omega)]

end

/-! #### The registers the schedule gives -/

/-- The registers of a READ_TEMPERATURE started in `s` that has come to SEQ `q`, the presence flags and the scratchpad given, and has or
has not decoded it. -/
def readingRegisters (s : State) (busy : Bool) (q : Seq) (p1 p2 p3 : Bool) (sp : Vector Byte 9) (decoded : Bool) : Registers where
  busy := busy
  pres := s.pres
  pres1 := p1
  pres2 := p2
  pres3 := p3
  minus := if decoded then minusOf sp[1] else s.minus
  seq := q
  data := s.data
  tempInt := if decoded then tempIntOf sp[0] sp[1] else s.tempInt
  tempFrac := if decoded then tempFracOf Config.params sp[0] else s.tempFrac
  tempRaw := if decoded then tempRawOf sp[0] sp[1] else s.tempRaw
  sp := sp

/-- The registers `j` ticks after a READ_TEMPERATURE's start in `s`, by the schedule (R73, R150 to R162). -/
def registersAfter (lv : Nat → Bool) (s : State) (j : Nat) : Registers :=
  readingRegisters s (s.busy && decide (j < readTemperatureTicks lv s.gt)) (seqAfter lv s.gt j) (presAfter lv s.gt s.gt j)
    (presAfter lv s.gt (reset2Start lv s.gt) j) (presAfter lv s.gt (reset3Start lv s.gt) j) (spAfter lv s.gt j s.sp)
    (decodedAfter lv s.gt j)

section
variable (lv : Nat → Bool) (s : State) {j : Nat}

theorem busy_before_end (h : s.gt + j < reset3Start lv s.gt + 960) :
    (s.busy && decide (j < readTemperatureTicks lv s.gt)) = s.busy := by
  rw [decide_eq_true (by rw [readTemperatureTicks]; omega), Bool.and_true]

/-- Up to the end of reset pulse 2 only SEQ and PRES1 move. -/
theorem registersAfter_before_reading (h : s.gt + j < reset2Start lv s.gt + 960) :
    registersAfter lv s j =
      readingRegisters s s.busy (seqAfter lv s.gt j) (presAfter lv s.gt s.gt j) false false s.sp false := by
  have h3 : reset2Start lv s.gt + 960 ≤ reset3Start lv s.gt := Nat.le_add_right ..
  rw [registersAfter, busy_before_end lv s (by omega), presAfter_of_lt (r := reset2Start lv s.gt) h,
    presAfter_of_lt (r := reset3Start lv s.gt) (by omega), decodedAfter_of_lt (by omega),
    spAfter_old _ fun _ => by rw [scratchByteStart]; omega]

/-- From there up to reset pulse 3 only SEQ and SP move. -/
theorem registersAfter_reading (hge : reset2Start lv s.gt + 960 ≤ s.gt + j) (hlt : s.gt + j < reset3Start lv s.gt) :
    registersAfter lv s j =
      readingRegisters s s.busy (seqAfter lv s.gt j) (presenceAt lv s.gt) (secondPresence lv s.gt) false (spAfter lv s.gt j s.sp)
        false := by
  have h1 := phase1_le_reset2Start lv s.gt
  rw [registersAfter, busy_before_end lv s (by omega), presAfter_of_le (r := s.gt) (by omega),
    presAfter_of_le (r := reset2Start lv s.gt) hge, presAfter_of_lt (r := reset3Start lv s.gt) (by omega), decodedAfter_of_lt hlt,
    secondPresence]

/-- The scratchpad from reset pulse 3 on. -/
theorem spAfter_done (hge : reset3Start lv s.gt ≤ s.gt + j) :
    spAfter lv s.gt j s.sp = if secondPresence lv s.gt then scratchpadAt lv s.gt else s.sp := by
  cases h2 : secondPresence lv s.gt with
  | false => exact spAfter_old _ fun h => by rw [h2] at h; cases h
  | true =>
    rw [reset3Start, if_pos h2] at hge
    rw [spAfter_reading s.sp (n := 9) h2 (by rw [scratchByteStart]; omega) (.inr (Nat.le_refl 9)), bytesStored_nine]
    rfl

/-- From reset pulse 3 on, up to the completion, nothing but SEQ moves. -/
theorem registersAfter_reset3 (hge : reset3Start lv s.gt ≤ s.gt + j) (hlt : s.gt + j < reset3Start lv s.gt + 960) :
    registersAfter lv s j =
      readingRegisters s s.busy .reset3 (presenceAt lv s.gt) (secondPresence lv s.gt) false
        (if secondPresence lv s.gt then scratchpadAt lv s.gt else s.sp) (secondPresence lv s.gt) := by
  have h1 := phase1_le_reset2Start lv s.gt
  have h2 : reset2Start lv s.gt + 960 ≤ reset3Start lv s.gt := Nat.le_add_right ..
  rw [registersAfter, busy_before_end lv s hlt, presAfter_of_le (r := s.gt) (by omega),
    presAfter_of_le (r := reset2Start lv s.gt) (by omega), presAfter_of_lt (r := reset3Start lv s.gt) hlt,
    decodedAfter_of_le hge, spAfter_done lv s hge, seqAfter_of_reset3 hge, if_pos hlt]
  rfl

/-- The registers of the end state. -/
theorem registers_readTemperatureEnd :
    (readTemperatureEnd lv s).registers =
      readingRegisters s false .idle (presenceAt lv s.gt) (secondPresence lv s.gt) (presenceAt lv (reset3Start lv s.gt))
        (if secondPresence lv s.gt then scratchpadAt lv s.gt else s.sp) (secondPresence lv s.gt) := by
  rw [readTemperatureEnd]
  cases presenceAt lv s.gt <;> cases secondPresence lv s.gt <;> rfl

/-- The registers at completion. -/
theorem registersAfter_end :
    registersAfter lv s (readTemperatureTicks lv s.gt) = (readTemperatureEnd lv s).registers := by
  have h1 := phase1_le_reset2Start lv s.gt
  have h2 : reset2Start lv s.gt + 960 ≤ reset3Start lv s.gt := Nat.le_add_right ..
  have hend : s.gt + readTemperatureTicks lv s.gt = reset3Start lv s.gt + 960 := by rw [readTemperatureTicks]; omega
  rw [registersAfter, decide_eq_false (Nat.lt_irrefl _), Bool.and_false, presAfter_of_le (r := s.gt) (by omega),
    presAfter_of_le (r := reset2Start lv s.gt) (by omega), presAfter_of_le (r := reset3Start lv s.gt) hend.ge,
    decodedAfter_of_le (by omega), spAfter_done lv s (by omega), seqAfter_of_reset3 (by omega), if_neg hend.ge.not_gt,
    registers_readTemperatureEnd]
  rfl

end

/-! #### The phases show them -/

section
variable (lv : Nat → Bool) {f : Nat → Registers} {k : Prog} {s : State}

theorem shows_phaseReset (q : Seq) (fl : PresFlag) (hf : ∀ j, j < 960 → f (s.gt + j) = { s with seq := q }.registers) :
    Shows f lv 960 (.op (.setSeq q) (resetPresence Config.params (.op (.setPres fl) k))) s :=
  .op ((shows_resetPresence lv _ { s with seq := q }).congr hf)

theorem shows_phaseByte (q : Seq) (b : Byte) (hf : ∀ j, j < 600 → f (s.gt + j) = { s with seq := q }.registers) :
    Shows f lv 600 (.op (.setSeq q) (writeByte Config.params b k)) s :=
  .op ((shows_writeByte lv _ { s with seq := q } b).congr hf)

/-- The bytes of the scratchpad: while one is read those before it are stored. -/
theorem shows_scratchpadReads (n : Nat)
    (hf : ∀ i, i < n → ∀ j, j < 520 → f (s.gt + 520 * i + j) = ((scratchRead lv)^[i] s).registers) :
    Shows f lv (520 * n) (scratchpadReads Config.params n k) s := by
  induction n generalizing s with
  | zero => exact .zero
  | succ n ih =>
    rw [Nat.mul_succ, Nat.add_comm]
    refine .append ((shows_readByte lv _ s).congr (hf 0 (Nat.succ_pos n))) (coast_readByte lv _ s) rfl (.op (ih fun i hi j hj => ?_))
    have hnext := hf (i + 1) (Nat.succ_lt_succ hi) j hj
    rwa [Function.iterate_succ_apply, show s.gt + 520 * (i + 1) + j = s.gt + 520 + 520 * i + j by omega] at hnext

/-- What `i` bytes leave of the registers. -/
theorem registers_iterate_scratchRead (i : Nat) (h : s.bytecnt = 0) :
    ((scratchRead lv)^[i] s).registers = { s with sp := bytesStored lv s.gt i s.sp }.registers := by
  cases i with
  | zero => rw [bytesStored_zero]; rfl
  | succ i => rw [iterate_scratchRead lv i s h]; rfl

end

/-- The registers by the schedule, as a function of GT. -/
def registersAt (lv : Nat → Bool) (s : State) (time : Nat) : Registers := registersAfter lv s (time - s.gt)

theorem registersAt_add (lv : Nat → Bool) (s : State) (j : Nat) : registersAt lv s (s.gt + j) = registersAfter lv s j := by
  rw [registersAt, Nat.add_sub_cancel_left]

section
variable (lv : Nat → Bool) (s : State)

/-- Phase 1 (R151, R152). -/
theorem shows_phase1 :
    Shows (registersAt lv s) lv (960 + if presenceAt lv s.gt then 1200 else 0)
      ((readTemperatureProg Config.params).writtenOut Config.params) { s with pend := false } := by
  have hprog : (readTemperatureProg Config.params).writtenOut Config.params =
      .op .clearPhasePres (.op (.setSeq .reset1) (resetPresence Config.params (.op (.setPres .pres1)
        (.ifPres .pres1 ((phase1Block (conversionWait Config.params)).writtenOut Config.params)
          ((conversionWait Config.params).writtenOut Config.params))))) := rfl
  have hblock : (phase1Block (conversionWait Config.params)).writtenOut Config.params =
      .op (.setSeq .skipRom1) (writeByte Config.params Config.cmdSkipRom
        (.op (.setSeq .convert) (writeByte Config.params Config.cmdConvertT
          ((conversionWait Config.params).writtenOut Config.params)))) := rfl
  have h2 := phase1_le_reset2Start lv s.gt
  rw [hprog]
  refine .op (.append (shows_phaseReset lv .reset1 .pres1 fun j hj => ?reset1) (coast_phaseReset lv ..) rfl ?_)
  case reset1 =>
    change registersAt lv s (s.gt + j) = _
    rw [registersAt_add, registersAfter_before_reading lv s (by omega), seqAfter_reset1 (by omega), presAfter_of_lt (by omega)]
    rfl
  cases h1 : presenceAt lv s.gt with
  | false => exact .zero
  | true =>
    rw [h1, if_pos rfl] at h2
    rw [hblock]
    refine .yes (.append (m := 600) (m' := 600) (shows_phaseByte lv .skipRom1 _ fun j hj => ?skip) (coast_phaseByte lv ..) rfl
      (shows_phaseByte lv .convert _ fun j hj => ?convert)) ((presFlag_phaseResetEnd ..).trans h1)
    case skip =>
      change registersAt lv s (s.gt + 960 + j) = _
      rw [Nat.add_assoc, registersAt_add, registersAfter_before_reading lv s (by omega), seqAfter_skipRom1 h1 (by omega) (by omega),
        presAfter_of_le (by omega)]
      rfl
    case convert =>
      change registersAt lv s (s.gt + 960 + 600 + j) = _
      rw [Nat.add_assoc, Nat.add_assoc, registersAt_add, registersAfter_before_reading lv s (by omega),
        seqAfter_convert h1 (by omega) (by omega), presAfter_of_le (by omega)]
      rfl

/-- What phase 1 leaves of the registers. -/
theorem registers_phase1End :
    (phase1End lv { s with pend := false }).registers =
      readingRegisters s s.busy (if presenceAt lv s.gt then .convert else .reset1) (presenceAt lv s.gt) false false s.sp false := by
  have hflag : presence (resetPresenceEnd lv { clearPhasePres { s with pend := false } with seq := .reset1 }) = presenceAt lv s.gt :=
    rfl
  simp only [phase1End, phaseResetEnd, setPres, hflag]
  cases presenceAt lv s.gt <;> rfl

theorem phase1End_gt : (phase1End lv s).gt = s.gt + 960 + if presenceAt lv s.gt then 1200 else 0 := by
  rw [phase1End]
  cases presenceAt lv s.gt <;> rfl

/-- The conversion wait (R153). -/
theorem shows_conversion :
    Shows (registersAt lv s) lv 750000 ((conversionWait Config.params).writtenOut Config.params)
      (phase1End lv { s with pend := false }) := by
  have hprog : (conversionWait Config.params).writtenOut Config.params =
      .op (.setSeq .convWait) (.op .clearLoop
        (convertWaits Config.params 100 ((phase2 Config.params).writtenOut Config.params))) :=
    congrArg (fun k => Prog.op (.setSeq .convWait) (.op .clearLoop k)) (writtenOut_convertWaits ..)
  have hregs := registers_phase1End lv s
  have hgt : (phase1End lv { s with pend := false }).gt = s.gt + 960 + if presenceAt lv s.gt then 1200 else 0 :=
    phase1End_gt lv { s with pend := false }
  rw [hprog]
  generalize phase1End lv { s with pend := false } = u at hregs hgt
  refine .op (.op ((shows_convertWaits lv _ { u with seq := .convWait, loopcnt := 0 } 100).congr fun j hj => ?_))
  have hend : reset2Start lv s.gt = u.gt + 750000 := by rw [hgt]; rfl
  change registersAt lv s (u.gt + j) = { u.registers with seq := .convWait }
  rw [hregs, hgt, Nat.add_assoc, Nat.add_assoc, registersAt_add, registersAfter_before_reading lv s (by omega),
    seqAfter_convWait (by omega) (by omega), presAfter_of_le (by omega)]
  rfl

/-- What the conversion wait leaves of the registers. -/
theorem registers_conversionEnd :
    (conversionEnd lv (phase1End lv { s with pend := false })).registers =
      readingRegisters s s.busy .convWait (presenceAt lv s.gt) false false s.sp false := by
  have h : (conversionEnd lv (phase1End lv { s with pend := false })).registers =
      { (phase1End lv { s with pend := false }).registers with seq := .convWait } := rfl
  rw [h, registers_phase1End]
  rfl

/-- Phase 2's block, started in `u` after the reset pulse: the two bytes sent, then nine read (R155, R156). -/
theorem shows_phase2Block {u : State} (h2 : secondPresence lv s.gt = true) (hgt : u.gt = reset2Start lv s.gt + 960) {q₀ : Seq}
    (hu : u.registers = readingRegisters s s.busy q₀ (presenceAt lv s.gt) true false s.sp false) :
    Shows (registersAt lv s) lv (1200 + 4680)
      ((phase2Block Config.params (phase3 Config.params)).writtenOut Config.params) u := by
  have hreads : (scratchpadReads Config.params Config.spBytes
      (.op (.setSeq .decode) (.op .decodeSp (phase3 Config.params)))).writtenOut Config.params =
        scratchpadReads Config.params 9 (.op (.setSeq .decode) (.op .decodeSp ((phase3 Config.params).writtenOut Config.params))) :=
    writtenOut_scratchpadReads ..
  have hprog : (phase2Block Config.params (phase3 Config.params)).writtenOut Config.params =
      .op (.setSeq .skipRom2) (writeByte Config.params Config.cmdSkipRom
        (.op (.setSeq .readSp) (writeByte Config.params Config.cmdReadScratchpad
          (.op (.setSeq .readBytes) (.op .clearBytes
            ((scratchpadReads Config.params Config.spBytes
              (.op (.setSeq .decode) (.op .decodeSp (phase3 Config.params)))).writtenOut Config.params)))))) := rfl
  have h1 := phase1_le_reset2Start lv s.gt
  have h3 : reset3Start lv s.gt = reset2Start lv s.gt + 960 + 5880 := by rw [reset3Start, if_pos h2]
  rw [hprog, hreads, show 1200 + 4680 = 600 + (600 + 520 * 9) from rfl]
  refine .append (shows_phaseByte lv .skipRom2 _ fun j hj => ?skip) (coast_phaseByte lv ..) rfl
    (.append (shows_phaseByte lv .readSp _ fun j hj => ?read) (coast_phaseByte lv ..) rfl
      (.op (.op (shows_scratchpadReads lv 9 fun i hi j hj => ?bytes))))
  case skip =>
    obtain ⟨a, ha⟩ := Nat.exists_eq_add_of_le (show s.gt ≤ u.gt + j by omega)
    change _ = { u.registers with seq := .skipRom2 }
    rw [ha, registersAt_add, registersAfter_reading lv s (by omega) (by omega), seqAfter_skipRom2 h2 (by omega) (by omega), hu, h2,
      spAfter_old s.sp fun _ => by rw [scratchByteStart]; omega]
    rfl
  case read =>
    obtain ⟨a, ha⟩ := Nat.exists_eq_add_of_le (show s.gt ≤ u.gt + 600 + j by omega)
    change registersAt lv s (u.gt + 600 + j) = { u.registers with seq := .readSp }
    rw [ha, registersAt_add, registersAfter_reading lv s (by omega) (by omega), seqAfter_readSp h2 (by omega) (by omega), hu, h2,
      spAfter_old s.sp fun _ => by rw [scratchByteStart]; omega]
    rfl
  case bytes =>
    obtain ⟨a, ha⟩ := Nat.exists_eq_add_of_le (show s.gt ≤ u.gt + 600 + 600 + 520 * i + j by omega)
    have hstart (n : Nat) : scratchByteStart lv s.gt n = u.gt + 600 + 600 + 520 * n := by rw [scratchByteStart]; omega
    rw [registers_iterate_scratchRead lv i rfl]
    change registersAt lv s (u.gt + 600 + 600 + 520 * i + j) =
      { u.registers with seq := .readBytes, sp := bytesStored lv (u.gt + 600 + 600) i u.registers.sp }
    rw [ha, registersAt_add, registersAfter_reading lv s (by omega) (by omega), seqAfter_readBytes (by omega) (by omega), hu, h2,
      spAfter_reading s.sp (n := i) h2 (by rw [hstart]; omega) (.inl (by rw [hstart]; omega)), hstart 0]
    rfl

/-- Phase 2, started in `u` when the conversion wait has passed (R154). -/
theorem shows_phase2 {u : State} (hgt : u.gt = reset2Start lv s.gt) {q₀ : Seq}
    (hu : u.registers = readingRegisters s s.busy q₀ (presenceAt lv s.gt) false false s.sp false) :
    Shows (registersAt lv s) lv (960 + if presenceAt lv u.gt then 1200 + 4680 else 0)
      ((phase2 Config.params).writtenOut Config.params) u := by
  have hprog : (phase2 Config.params).writtenOut Config.params =
      .op (.setSeq .reset2) (resetPresence Config.params (.op (.setPres .pres2)
        (.ifPres .pres2 ((phase2Block Config.params (phase3 Config.params)).writtenOut Config.params)
          ((phase3 Config.params).writtenOut Config.params)))) := rfl
  have h1 := phase1_le_reset2Start lv s.gt
  rw [hprog]
  refine .append (shows_phaseReset lv .reset2 .pres2 fun j hj => ?reset2) (coast_phaseReset lv ..) rfl ?_
  case reset2 =>
    obtain ⟨a, ha⟩ := Nat.exists_eq_add_of_le (show s.gt ≤ u.gt + j by omega)
    change _ = { u.registers with seq := .reset2 }
    rw [ha, registersAt_add, registersAfter_before_reading lv s (by omega), seqAfter_reset2 (by omega) (by omega),
      presAfter_of_le (by omega), hu]
    rfl
  cases h2 : presenceAt lv u.gt with
  | false => exact .zero
  | true =>
    refine .yes (shows_phase2Block lv s (q₀ := .reset2) ?_ ?_ ?_) ((presFlag_phaseResetEnd ..).trans h2)
    · rw [secondPresence, ← hgt, h2]
    · exact congrArg (· + 960) hgt
    · change { u.registers with seq := .reset2, pres2 := presenceAt lv u.gt } = _
      rw [hu, h2]
      rfl

/-- Phase 3, started in `u` (R158). -/
theorem shows_phase3 {u : State} (hgt : u.gt = reset3Start lv s.gt) {q₀ : Seq}
    (hu : u.registers = readingRegisters s s.busy q₀ (presenceAt lv s.gt) (secondPresence lv s.gt) false
      (if secondPresence lv s.gt then scratchpadAt lv s.gt else s.sp) (secondPresence lv s.gt)) :
    Shows (registersAt lv s) lv 960 ((phase3 Config.params).writtenOut Config.params) u := by
  have hprog : (phase3 Config.params).writtenOut Config.params =
      .op (.setSeq .reset3) (resetPresence Config.params (.op (.setPres .pres3) .done)) := rfl
  have h1 := phase1_le_reset2Start lv s.gt
  have h2 : reset2Start lv s.gt + 960 ≤ reset3Start lv s.gt := Nat.le_add_right ..
  rw [hprog]
  refine shows_phaseReset lv .reset3 .pres3 fun j hj => ?_
  obtain ⟨a, ha⟩ := Nat.exists_eq_add_of_le (show s.gt ≤ u.gt + j by omega)
  change _ = { u.registers with seq := .reset3 }
  rw [ha, registersAt_add, registersAfter_reset3 lv s (by omega) (by omega), hu]
  rfl

/-- What phase 2, started in `u`, leaves of the registers. -/
theorem registers_phase2End {u : State} (hgt : u.gt = reset2Start lv s.gt) {q₀ : Seq}
    (hu : u.registers = readingRegisters s s.busy q₀ (presenceAt lv s.gt) false false s.sp false) :
    (phase2End lv u).registers =
      readingRegisters s s.busy (if secondPresence lv s.gt then .decode else .reset2) (presenceAt lv s.gt) (secondPresence lv s.gt)
        false (if secondPresence lv s.gt then scratchpadAt lv s.gt else s.sp) (secondPresence lv s.gt) := by
  have hsp : scratchpadAt lv s.gt = bytesRead lv (u.gt + 960 + 1200) := by rw [hgt]; rfl
  rw [phase2End_eq, hsp, secondPresence, ← hgt]
  cases presenceAt lv u.gt with
  | false =>
    change { u.registers with pres2 := false, seq := .reset2 } = _
    rw [hu]
    rfl
  | true =>
    generalize bytesRead lv (u.gt + 960 + 1200) = sp
    change { u.registers with
      pres2 := true, seq := .decode, sp := sp, tempRaw := tempRawOf sp[0] sp[1], tempInt := tempIntOf sp[0] sp[1]
      tempFrac := tempFracOf Config.params sp[0], minus := minusOf sp[1] } = _
    rw [hu]
    rfl

theorem phase3Start_gt : (phase3Start lv s).gt = reset3Start lv s.gt := by
  rw [phase3Start, phase2End_eq, conversionEnd_gt]
  rfl

/-- At every tick before the completion a READ_TEMPERATURE shows the registers of the schedule. -/
theorem shows_readTemperature :
    Shows (registersAt lv s) lv (readTemperatureTicks lv s.gt)
      ((readTemperatureProg Config.params).writtenOut Config.params) { s with pend := false } := by
  have hgt : (conversionEnd lv (phase1End lv { s with pend := false })).gt = reset2Start lv s.gt :=
    conversionEnd_gt lv { s with pend := false }
  have hgt3 : (phase3Start lv { s with pend := false }).gt = reset3Start lv s.gt := phase3Start_gt lv { s with pend := false }
  have hregs := registers_conversionEnd lv s
  have hticks : readTemperatureTicks lv s.gt = (960 + if presenceAt lv s.gt then 1200 else 0) +
      (750000 + ((960 + if presenceAt lv (conversionEnd lv (phase1End lv { s with pend := false })).gt then 1200 + 4680 else 0) +
        960)) := by
    rw [hgt, readTemperatureTicks, reset3Start, secondPresence]
    generalize presenceAt lv (reset2Start lv s.gt) = second
    unfold reset2Start
    omega
  rw [hticks]
  exact .append (shows_phase1 lv s) (coast_phase1 lv { s with pend := false }) (by rw [phase1End_gt, Nat.add_assoc])
    (.append (shows_conversion lv s) (coast_conversion lv _) rfl
      (.append (shows_phase2 lv s hgt hregs) (coast_phase2 lv _) (hgt3.trans (by rw [hgt, reset3Start, secondPresence, Nat.add_assoc]))
        (shows_phase3 lv s hgt3 (registers_phase2End lv s hgt hregs))))

end

/-! #### The obligations, read off the registers of the schedule -/

/-- After `j` ticks of a READ_TEMPERATURE, its end included, the registers are those of the schedule. -/
theorem readTemperature_registers {s : State} (lv : Nat → Bool) {j : Nat} (hr : s.rst = false)
    (hj : j ≤ readTemperatureTicks lv s.gt) :
    ∃ u, Completes .readTemperature s lv j u ∧ u.registers = registersAfter lv s j := by
  rcases hj.lt_or_eq with hlt | rfl
  · obtain ⟨t, hexec, hunder, hout⟩ := readTemperature_starts hr
    obtain ⟨u, hticks, -, hu⟩ := hunder.ticks lv j
    refine ⟨u, ⟨t, hexec, hticks⟩, ?_⟩
    rw [← registersAt_add, ← (shows_readTemperature lv s j hlt).2, ← hout, ← hu]
    rfl
  · exact ⟨_, completes_readTemperature lv hr, (registersAfter_end lv s).symm⟩

/-- Settles O36: SEQ is a register of the schedule. -/
theorem readTemperatureSequencerStates : Obligations.ReadTemperatureSequencerStates := by
  unfold Obligations.ReadTemperatureSequencerStates
  intro s lv j hr hj
  obtain ⟨u, hu, hregs⟩ := readTemperature_registers lv hr hj
  exact ⟨u, hu, congrArg Registers.seq hregs⟩

/-- Settles O54: DATA and PRES are in the schedule what they were at the start. -/
theorem readTemperatureLeavesDataAndPres : Obligations.ReadTemperatureLeavesDataAndPres := by
  unfold Obligations.ReadTemperatureLeavesDataAndPres
  intro s lv j hr hj
  obtain ⟨u, hu, hregs⟩ := readTemperature_registers lv hr hj
  exact ⟨u, hu, congrArg Registers.data hregs, congrArg Registers.pres hregs⟩

/-- Settles O59: the presence flags, SP and the decoded fields are registers of the schedule. -/
theorem readTemperatureRegistersAtEveryTick : Obligations.ReadTemperatureRegistersAtEveryTick := by
  unfold Obligations.ReadTemperatureRegistersAtEveryTick
  intro s lv j hr hj
  obtain ⟨u, hu, hregs⟩ := readTemperature_registers lv hr hj
  have hsp : u.sp = spAfter lv s.gt j s.sp := congrArg Registers.sp hregs
  have hraw := congrArg Registers.tempRaw hregs
  have hint := congrArg Registers.tempInt hregs
  have hfrac := congrArg Registers.tempFrac hregs
  have hminus := congrArg Registers.minus hregs
  simp only [registersAfter, readingRegisters, ← hsp] at hraw hint hfrac hminus
  refine ⟨u, hu, congrArg Registers.pres1 hregs, congrArg Registers.pres2 hregs, congrArg Registers.pres3 hregs, hsp,
    fun hd => ?_, fun hd => ?_⟩
  · rw [if_pos hd] at hraw hint hfrac hminus
    exact ⟨hraw, hint, hfrac, hminus⟩
  · rw [hd] at hraw hint hfrac hminus
    exact ⟨hraw, hint, hfrac, hminus⟩

end Sys2Proof.Machine
